-- ==== Sys2Proof/Word.lean ====
section
/-! DEFINITION. The word types of the aquaLed core (10_state.md R10, 30_encoding.md R37): everything unsigned, bit 0 the least
significant (00_scope.md R7). -/

namespace Sys2Proof

/-- A mode byte or a byte of the persistent storage (formats `M` and `NV`, R37). -/
abbrev Byte := BitVec 8

/-- A duty value as the ports and the duty registers carry it (10_state.md R16). -/
abbrev Duty := BitVec 16

/-- The three-bit channel selector of format `S` (30_encoding.md R41). -/
abbrev Selector := BitVec 3

/-- A duty in the logical range `[0, 4095]`, the range the parameters keep to (00_scope.md R5). -/
abbrev LogicalDuty := BitVec 12

/-- `zext_16` (00_scope.md R7). -/
abbrev zext16 {w : Nat} (v : BitVec w) : Duty := v.setWidth 16

end Sys2Proof
end

