-- ==== Sys2Proof/Config.lean ====
section
/-! DEFINITION. What an implementation fixes (the parameters of 00_scope.md R5), the input vector of a tick (10_state.md R18),
and the free values: constants without a body, so that nothing can be proved of the value they have. -/

namespace Sys2Proof

/-- The two build variants (00_scope.md R1, R5; decision D8). -/
inductive Variant where
  /-- The calibrated-panel variant, `VARIANT = PANEL`. -/
  | panel
  /-- The demo variant, `VARIANT = DEMO`. -/
  | demo
  deriving DecidableEq, Repr, Inhabited

/-- `MODE_COUNT`, written `N`: 8 for PANEL and 7 for DEMO (00_scope.md R5, decision D32). -/
def Variant.modeCount : Variant → Nat
  | .panel => 8
  | .demo => 7

/-- One row of the duty table: element `k` is the duty of channel `k` (10_state.md R23, decision D12). -/
structure DutyRow where
  ch1 : LogicalDuty
  ch2 : LogicalDuty
  ch3 : LogicalDuty
  ch4 : LogicalDuty
  deriving DecidableEq, Repr, Inhabited

/-- The parameters of 00_scope.md R5 that some rule depends on. Rows 1 and 2 of the duty table are not here: the spec fixes
them (R77, R78). `F_CLK` and `PWM_BITS` are not here: no rule depends on them (log 18); `Params.atReferenceDurations` says which
tick counts a clock frequency gives. -/
structure Params where
  /-- `VARIANT`. -/
  variant : Variant
  /-- `SETTLE_TICKS`, written `S`. -/
  settleTicks : Nat
  /-- `FLICKER_TICKS`, written `F`. -/
  flickerTicks : Nat
  /-- `BREATHE_TICKS`, written `B`. -/
  breatheTicks : Nat
  /-- `DUTY_TABLE[3]`, OPEN (R79). -/
  row3 : DutyRow
  /-- `DUTY_TABLE[4]`, OPEN (R80). -/
  row4 : DutyRow
  /-- `DUTY_TABLE[5]`, OPEN (R81). -/
  row5 : DutyRow
  /-- `DUTY_TABLE[6]`, OPEN (R82). -/
  row6 : DutyRow
  /-- `DUTY_TABLE[7]`, OPEN (R83). -/
  row7 : DutyRow
  /-- `SOLO_DUTY`, OPEN (R91). -/
  soloDuty : LogicalDuty
  /-- `NV_ADDR`, OPEN, of no stated width (20_memory.md R25). -/
  nvAddr : Nat
  deriving DecidableEq, Repr, Inhabited

/-- The constraint 00_scope.md R5 puts on a tick count: `1 <= T < 2^32`. -/
abbrev ValidTicks (t : Nat) : Prop := 1 ≤ t ∧ t < 2 ^ 32

/-- The parameters keep the constraints of 00_scope.md R5. The duties keep theirs by their type. A premise of the statements
about the length of a delay, and of nothing else (log 3). -/
abbrev Params.Valid (p : Params) : Prop :=
  ValidTicks p.settleTicks ∧ ValidTicks p.flickerTicks ∧ ValidTicks p.breatheTicks

/-- What the environment supplies at one tick: the input ports of 10_state.md R18 but for `clk` (one tick is one edge) and
`nv_rdata` (the platform's contract makes it `NV`, log 6); and the platform's choice of the byte a store leaves behind when it
is cut off before `nv_done` is sampled as 1 (20_memory.md R31 b, log 5). A port is `true` when it is 1. -/
structure Inputs where
  /-- `rst_n`, active low. -/
  rstN : Bool
  /-- `btn_n`, active low: `false` is pressed. -/
  btnN : Bool
  /-- `init_done`. -/
  initDone : Bool
  /-- `nv_done`. -/
  nvDone : Bool
  /-- `rnd_duty`, a draw. -/
  rndDuty : BitVec 16
  /-- `rnd_sel`, a draw. -/
  rndSel : BitVec 16
  /-- The byte left in the store if this tick cuts a write off, which takes `nvDone = false`. Not a port. -/
  nvTorn : Byte
  deriving DecidableEq, Repr, Inhabited

/-- The tick counts of an instantiation that wants the document's reference durations of 10 ms, 1 s and 10 ms at a clock of `hz`
hertz (00_scope.md R5, 70_reset_and_hazards.md R136). DESIGN CHOICE (log 20): `F_CLK` is taken as a whole number of hertz, where
R5 says only that it is the frequency of `clk`, and a half tick rounds up. The three counts are independent parameters, and no
rule asks for these. -/
def Params.atReferenceDurations (hz : Nat) (p : Params) : Params :=
  { p with settleTicks := (hz + 50) / 100, flickerTicks := hz, breatheTicks := (hz + 50) / 100 }

namespace Config

/-- `FLICKER_DUTY_RANGE` (00_scope.md R5). -/
def flickerDutyRange : Nat := 40

/-- `SELECTOR_COUNT` (00_scope.md R5). -/
def selectorCount : Nat := 5

/-- `BREATHE_MAX` (00_scope.md R5). `BREATHE_MIN` is 0. -/
def breatheMax : Nat := 127

/-- The index of the last step of a sweep (43_mode_fsm.md R88): the sweep has 255 steps. -/
def sweepLast : Nat := 254

/-- Free value: the parameters the machine after reset was built with (log 2). -/
opaque params : Params

/-- Free value: the inputs of a tick that no stimulus gives, by the number of ticks sampled before it (log 1). -/
opaque freeInputs : Nat → Inputs

/-- Free value: what a byte of the persistent storage that was never written reads as, by its address (20_memory.md R31 a,
log 4). -/
opaque unwrittenByte : Nat → Byte

/-- Free value: `breathe_duty` of an index past the sweep, which 43_mode_fsm.md R88 does not define (log 15). -/
opaque dutyPastSweep : Nat → Duty

/-- Free value: what `ANIM_POS` holds after a step from 255, which no rule makes fit (43_mode_fsm.md R90, log 15). -/
opaque posPastSweep : Byte

end Config

end Sys2Proof
end

