-- ==== Sys2Proof/Syntax.lean ====
section
/-! DEFINITION. The operations of the block, which are its instructions (00_scope.md R4), and the values that select them
(30_encoding.md R37). -/

namespace Sys2Proof

/-- The phase register `PH`: exactly the twelve phases of 10_state.md R13 (decision D5). Codes 12 to 15 cannot be written
down, as R13 and R45 ask (log 9). -/
inductive Phase where
  | bootInit | bootPwm | bootLoad | poll | dbLead | dbHold | dbTrail | advance | persist | render | flkPause | brtStep
  deriving DecidableEq, Repr, Inhabited

/-- The instructions: one constructor per mnemonic of spec/opcode_table.json. An operation selected by several disjoint
patterns is one constructor that carries the bits the patterns leave free (log 17). -/
inductive Instr where
  /-- `BOOT_INIT` (44_main_loop.md R102). -/
  | bootInit
  /-- `BOOT_PWM` (44_main_loop.md R103). -/
  | bootPwm
  /-- `BOOT_LOAD` (42_store.md R69). -/
  | bootLoad
  /-- `POLL` (41_button.md R61). -/
  | poll
  /-- `DB_LEAD` (41_button.md R62). -/
  | dbLead
  /-- `DB_HOLD` (41_button.md R63). -/
  | dbHold
  /-- `DB_TRAIL` (41_button.md R64). -/
  | dbTrail
  /-- `ADVANCE` (43_mode_fsm.md R73). -/
  | advance
  /-- `PERSIST` (42_store.md R70). -/
  | persist
  /-- `RENDER` (43_mode_fsm.md R74). -/
  | render
  /-- `FLK_PAUSE` (43_mode_fsm.md R87). -/
  | flkPause
  /-- `BRT_STEP` (43_mode_fsm.md R90). -/
  | brtStep
  /-- `RENDER.OFF` (43_mode_fsm.md R75). -/
  | renderOff
  /-- `RENDER.STATIC1` (43_mode_fsm.md R77). -/
  | renderStatic1
  /-- `RENDER.STATIC2` (43_mode_fsm.md R78). -/
  | renderStatic2
  /-- `RENDER.STATIC3` (43_mode_fsm.md R79). -/
  | renderStatic3
  /-- `RENDER.STATIC4` (43_mode_fsm.md R80). -/
  | renderStatic4
  /-- `RENDER.STATIC5` (43_mode_fsm.md R81). -/
  | renderStatic5
  /-- `RENDER.STATIC6` (43_mode_fsm.md R82). -/
  | renderStatic6
  /-- `RENDER.STATIC7` (43_mode_fsm.md R83). -/
  | renderStatic7
  /-- `RENDER.FLICKER` (43_mode_fsm.md R86). -/
  | renderFlicker
  /-- `RENDER.BREATHE` (43_mode_fsm.md R89). -/
  | renderBreathe
  /-- `RENDER.SOLO1` (43_mode_fsm.md R92). -/
  | renderSolo1
  /-- `RENDER.SOLO2` (43_mode_fsm.md R93). -/
  | renderSolo2
  /-- `RENDER.SOLO3` (43_mode_fsm.md R94). -/
  | renderSolo3
  /-- `RENDER.SOLO4` (43_mode_fsm.md R95). -/
  | renderSolo4
  /-- `RENDER.RECOVER` with the out-of-range mode byte that selects it (43_mode_fsm.md R84). -/
  | renderRecover (mode : Byte)
  /-- `SETCH.ALL` (40_channel_driver.md R50). -/
  | setchAll (duty : Duty)
  /-- `SETCH.CH1` (40_channel_driver.md R51). -/
  | setchCh1 (duty : Duty)
  /-- `SETCH.CH2` (40_channel_driver.md R52). -/
  | setchCh2 (duty : Duty)
  /-- `SETCH.CH3` (40_channel_driver.md R53). -/
  | setchCh3 (duty : Duty)
  /-- `SETCH.CH4` (40_channel_driver.md R54). -/
  | setchCh4 (duty : Duty)
  /-- `SETCH.UNREC` with its selector, 5, 6 or 7 (40_channel_driver.md R55). -/
  | setchUnrec (sel : Selector) (duty : Duty)
  /-- `SETTAB` (40_channel_driver.md R56): `tk` is the duty of channel `k`. -/
  | settab (t1 t2 t3 t4 : Duty)
  deriving DecidableEq, Repr, Inhabited

/-- The render operation a mode byte selects in phase `RENDER` (43_mode_fsm.md R74). -/
inductive RenderOp where
  | off
  | static1 | static2 | static3 | static4 | static5 | static6 | static7
  | flicker | breathe
  | solo1 | solo2 | solo3 | solo4
  | recover
  deriving DecidableEq, Repr, Inhabited

/-- A value that selects an operation, with the format it stands in. Which format applies is known from where the value
stands (30_encoding.md R37). -/
inductive CodeWord where
  /-- Format `PH`, the phase code. -/
  | ph (code : BitVec 4)
  /-- Format `M`, the mode byte. -/
  | m (mode : Byte)
  /-- Format `S`, `sel` in bits 18 to 16 and `duty` in bits 15 to 0. -/
  | s (word : BitVec 19)
  /-- Format `T`, `t4` in the most significant bits. -/
  | t (word : BitVec 64)
  deriving DecidableEq, Repr, Inhabited

/-- A command word at the multiplexer's command input (40_channel_driver.md R49). -/
inductive MuxWord where
  /-- A `SETCH` command, format `S`. -/
  | setch (word : BitVec 19)
  /-- A `SETTAB` command, format `T`. -/
  | settab (word : BitVec 64)
  deriving DecidableEq, Repr, Inhabited

end Sys2Proof
end

