-- ==== Sys2Proof/Machine/State.lean ====
section
/-! DEFINITION. The state of the machine as plain data (10_state.md R10, R22), the ways a step may stop, and the state after
reset (10_state.md R24). -/

namespace Sys2Proof.Machine

/-- The persistent byte storage: the bytes written so far, addresses strictly rising. An address it does not list was never
written and has no value of its own here; `State.readByte` says what it reads as (20_memory.md R25, R31; log 4). -/
abbrev Memory := List Host.Cell

/-- The faults of a step. There are none: the block raises no exception, synchronous or asynchronous, and no operation can
fail (60_exceptions.md R109, 44_main_loop.md R101). -/
inductive Fault where
  deriving DecidableEq, Repr

/-- The refusals of a step. The block refuses nothing (44_main_loop.md R101). -/
inductive Refusal where
  /-- An instruction that has no meaning yet. Raised by an arm of `exec` only, and no arm raises it. Safe. -/
  | notModelled (mnemonic : String)
  deriving DecidableEq, Repr

/-- The state `s(n)`: the registers of 10_state.md R10, the persistent byte storage (R22), and four fields of the model's own. -/
structure State where
  /-- `SYNC0`, the button pin sampled at the last tick; `true` is 1, released (R11). -/
  sync0 : Bool
  /-- `SYNC1`, the button level every rule uses; `true` is 1, released (R12). -/
  sync1 : Bool
  /-- `PH`, the phase (R13). -/
  ph : Phase
  /-- `DLY`, the down-counter of the delay in progress (R14). -/
  dly : BitVec 32
  /-- `MODE` (R15). -/
  mode : Byte
  /-- `DUTY1` (R16). -/
  duty1 : Duty
  /-- `DUTY2` (R16). -/
  duty2 : Duty
  /-- `DUTY3` (R16). -/
  duty3 : Duty
  /-- `DUTY4` (R16). -/
  duty4 : Duty
  /-- `ANIM_CH`, 0 for channel 1 to 3 for channel 4 (R17). -/
  animCh : BitVec 2
  /-- `ANIM_POS`, the index of the current step of the sweep (R17). -/
  animPos : Byte
  /-- The persistent byte storage; `NV` is its byte at `NV_ADDR` (R22). -/
  mem : Memory
  /-- The model's own: the parameters the machine was built with. No step writes them (00_scope.md R5, log 2). -/
  params : Params
  /-- The model's own: the inputs still to be sampled, the next tick's first (00_scope.md R6, log 1). -/
  stimulus : List Inputs
  /-- The model's own: how many ticks have sampled their inputs, the index of the free inputs (log 1, log 16). -/
  drawn : Nat
  /-- The model's own: a command given to the multiplexer from outside the sequencer, when it is exercised on its own; `none`
  in the assembled block (40_channel_driver.md R55, log 8). -/
  muxIn : Option MuxWord
  deriving DecidableEq, Repr

/-- The machine right after reset (10_state.md R24): every register at the value R24 states. The storage lists nothing, so
`NV` is a free value (R31 a, log 4); the parameters are a free value (log 2); no stimulus is given, so every input is a free
value (log 1). -/
def State.reset : State where
  sync0 := true
  sync1 := true
  ph := .bootInit
  dly := 0
  mode := 0
  duty1 := 0
  duty2 := 0
  duty3 := 0
  duty4 := 0
  animCh := 0
  animPos := 0
  mem := []
  params := Config.params
  stimulus := []
  drawn := 0
  muxIn := none

end Sys2Proof.Machine
end

