-- ==== Sys2Proof/Machine/Ops.lean ====
section
/-! DEFINITION. The named operations: the persistent storage, the inputs of a tick, the register writes the rules share, the
multiplexer, the delay protocol, and what every tick does beside the operation it runs. The block takes no exception and
returns from none (60_exceptions.md R109, R114, R115), so there is no operation for either. -/

namespace Sys2Proof.Machine

/-! ## The persistent byte storage -/

/-- The canonical form: addresses strictly rising. An unlisted address has no value, so no entry repeats one. -/
abbrev Memory.wf (m : Memory) : Prop := m.Pairwise fun a b => a.1 < b.1

/-- What the storage has recorded at an address: `none` where nothing was written. -/
def Memory.read : Memory → Nat → Option Byte
  | [], _ => none
  | (b, v) :: m, a => if b = a then some v else Memory.read m a

/-- Writes one byte and keeps the canonical form (20_memory.md R30: the only width is 8 bits). -/
def Memory.write : Memory → Nat → Byte → Memory
  | [], a, v => [(a, v)]
  | (b, u) :: m, a, v =>
    if a < b then (a, v) :: (b, u) :: m
    else if a = b then (a, v) :: m
    else (b, u) :: Memory.write m a v

/-- The byte present at an address: "whatever byte is present", a free value where nothing was written (20_memory.md R26,
R31 a, log 4). -/
def State.readByte (s : State) (a : Nat) : Byte := (s.mem.read a).getD (Config.unwrittenByte a)

/-- `NV`, the byte at `NV_ADDR` (20_memory.md R25). -/
def State.nv (s : State) : Byte := s.readByte s.params.nvAddr

/-- `NvRead()`: the byte on `nv_rdata`, by the platform's contract equal to `NV` (20_memory.md R26, log 6). -/
def State.nvRead (s : State) : Byte := s.nv

/-- The completion of `NvWrite(v)`: the platform has `NV = v` (20_memory.md R27). -/
def State.nvWrite (v : Byte) (s : State) : State := { s with mem := s.mem.write s.params.nvAddr v }

/-! ## The inputs of a tick -/

/-- `in(n)`: the stimulus where it gives one, a free value where it does not (00_scope.md R6, log 1). -/
def State.input (s : State) : Inputs := s.stimulus.headD (Config.freeInputs s.drawn)

/-! ## Register writes -/

/-- `PH <- p` (00_scope.md R8). -/
def State.goto (p : Phase) (s : State) : State := { s with ph := p }

/-- `DLY <- d`. -/
def State.setDly (d : BitVec 32) (s : State) : State := { s with dly := d }

/-- `DLY <- T - 1`, on entering a delay of `T` ticks (10_state.md R14). -/
def State.loadDelay (t : Nat) (s : State) : State := s.setDly (BitVec.ofNat 32 (t - 1))

/-- `ANIM_CH <- c` and `ANIM_POS <- p`. -/
def State.setCursor (c : BitVec 2) (p : Byte) (s : State) : State := { s with animCh := c, animPos := p }

/-- `MODE <- m`, with the cursor reset that goes with every write of `MODE` (43_mode_fsm.md R85). -/
def State.enterMode (m : Byte) (s : State) : State := { s with mode := m, animCh := 0, animPos := 0 }

/-- All four duty registers at one edge (40_channel_driver.md R49). -/
def State.setDuties (d1 d2 d3 d4 : Duty) (s : State) : State :=
  { s with duty1 := d1, duty2 := d2, duty3 := d3, duty4 := d4 }

/-! ## The multiplexer -/

/-- The selection network for channel `k` under `SETCH(d, sel)` (40_channel_driver.md R49): `ALL` and an unrecognized selector
broadcast, a single-channel selector zeroes the channels it does not address. -/
def muxOut (d : Duty) (sel k : Selector) : Duty :=
  if sel = 0 ∨ 5 ≤ sel.toNat then d else if sel = k then d else 0

/-- `SETCH(d, sel)` (40_channel_driver.md R50 to R55). -/
def State.setch (d : Duty) (sel : Selector) (s : State) : State :=
  s.setDuties (muxOut d sel 1) (muxOut d sel 2) (muxOut d sel 3) (muxOut d sel 4)

/-- `SETTAB(t)` (40_channel_driver.md R56). -/
def State.settab (t1 t2 t3 t4 : Duty) (s : State) : State := s.setDuties t1 t2 t3 t4

/-! ## The delay protocol -/

/-- One tick of a delay phase: the exit action when `DLY = 0`, else `DLY <- DLY - 1` (10_state.md R14). -/
def State.delayTick (exit : State → State) (s : State) : State :=
  if s.dly = 0 then exit s else s.setDly (s.dly - 1)

/-! ## What every tick does -/

/-- What a tick adds to the operation it ran, `s` the state before it and `t` what the operation left: the synchronizer step
(41_button.md R60), and the model's own bookkeeping: the inputs are consumed and the command input is empty again. -/
def State.endTick (s t : State) : State :=
  { t with
    sync0 := s.input.btnN
    sync1 := s.sync0
    stimulus := s.stimulus.tail
    drawn := s.drawn + 1
    muxIn := none }

/-- The storage across a tick with `rst_n = 0`. In `PERSIST`, `nv_done = 1` completes the write at this tick too
(20_memory.md R27, 44_main_loop.md R101); before it the write was in flight and leaves any byte, the environment's choice
(20_memory.md R31 b, 70_reset_and_hazards.md R125, log 5). In every other phase the storage is kept (R31 c). -/
def State.memAfterReset (s : State) : Memory :=
  if s.ph = .persist then (s.nvWrite (if s.input.nvDone then s.mode else s.input.nvTorn)).mem else s.mem

/-- A tick with `rst_n = 0`: every register takes its reset value, the persistent byte is not reset (44_main_loop.md R101,
10_state.md R24). -/
def State.resetTick (s : State) : State :=
  { State.reset with
    mem := s.memAfterReset
    params := s.params
    stimulus := s.stimulus.tail
    drawn := s.drawn + 1 }

end Sys2Proof.Machine
end

