-- ==== Sys2Proof/Machine/Boot.lean ====
section
/-! DEFINITION. The boot operations (44_main_loop.md R102, R103); the third, `BOOT_LOAD`, is with the store. -/

namespace Sys2Proof.Machine

/-- `BOOT_INIT`: wait for `init_done` (44_main_loop.md R102). -/
def execBootInit (s : State) : Host.Outcome State Fault Refusal :=
  .next (if s.input.initDone then s.goto .bootPwm else s)

/-- `BOOT_PWM`: one tick with `pwm_start = 1` (44_main_loop.md R103). -/
def execBootPwm (s : State) : Host.Outcome State Fault Refusal :=
  .next (s.goto .bootLoad)

end Sys2Proof.Machine
end

