-- ==== Sys2Proof/Machine/Button.lean ====
section
/-! DEFINITION. The debounce state machine (41_button.md R61 to R64). The synchronizer step of R60 is in `State.endTick`. -/

namespace Sys2Proof.Machine

/-- `POLL`: a pressed level starts the leading settle delay, a released one goes on to the render (41_button.md R61). -/
def execPoll (s : State) : Host.Outcome State Fault Refusal :=
  .next (if s.sync1 then s.goto .render else (s.loadDelay s.params.settleTicks).goto .dbLead)

/-- `DB_LEAD`: the leading-edge settle delay, the level not read (41_button.md R62). -/
def execDbLead (s : State) : Host.Outcome State Fault Refusal :=
  .next (s.delayTick (State.goto .dbHold))

/-- `DB_HOLD`: wait for release, without a timeout (41_button.md R63). -/
def execDbHold (s : State) : Host.Outcome State Fault Refusal :=
  .next (if s.sync1 then (s.loadDelay s.params.settleTicks).goto .dbTrail else s)

/-- `DB_TRAIL`: the trailing-edge settle delay, then report the press (41_button.md R64). -/
def execDbTrail (s : State) : Host.Outcome State Fault Refusal :=
  .next (s.delayTick (State.goto .advance))

end Sys2Proof.Machine
end

