-- ==== Sys2Proof/Machine/Channel.lean ====
section
/-! DEFINITION. The commands of the PWM channel duty multiplexer (40_channel_driver.md R50 to R56). They write the four duty
registers and nothing else. -/

namespace Sys2Proof.Machine

/-- `SETCH.ALL`: broadcast (40_channel_driver.md R50). -/
def execSetchAll (duty : Duty) (s : State) : Host.Outcome State Fault Refusal := .next (s.setch duty 0)

/-- `SETCH.CH1`: channel 1 alone (40_channel_driver.md R51). -/
def execSetchCh1 (duty : Duty) (s : State) : Host.Outcome State Fault Refusal := .next (s.setch duty 1)

/-- `SETCH.CH2`: channel 2 alone (40_channel_driver.md R52). -/
def execSetchCh2 (duty : Duty) (s : State) : Host.Outcome State Fault Refusal := .next (s.setch duty 2)

/-- `SETCH.CH3`: channel 3 alone (40_channel_driver.md R53). -/
def execSetchCh3 (duty : Duty) (s : State) : Host.Outcome State Fault Refusal := .next (s.setch duty 3)

/-- `SETCH.CH4`: channel 4 alone (40_channel_driver.md R54). -/
def execSetchCh4 (duty : Duty) (s : State) : Host.Outcome State Fault Refusal := .next (s.setch duty 4)

/-- `SETCH.UNREC`: an unrecognized selector broadcasts (40_channel_driver.md R55). -/
def execSetchUnrec (sel : Selector) (duty : Duty) (s : State) : Host.Outcome State Fault Refusal :=
  .next (s.setch duty sel)

/-- `SETTAB`: four independent duties (40_channel_driver.md R56). -/
def execSettab (t1 t2 t3 t4 : Duty) (s : State) : Host.Outcome State Fault Refusal := .next (s.settab t1 t2 t3 t4)

end Sys2Proof.Machine
end

