-- ==== Sys2Proof/WellFormed.lean ====
section
/-! DEFINITION. Which instructions a build variant has: an instruction is well formed when some word of its format selects it
(30_encoding.md R38 to R42, R46). -/

namespace Sys2Proof

/-- `PANEL` alone has the static operations (R39), `DEMO` alone the flicker, breathe and solo operations (R40); `RECOVER`
carries a byte from `N` up (43_mode_fsm.md R84), `SETCH.UNREC` a selector from 5 up (40_channel_driver.md R55). -/
def Instr.wellFormed (v : Variant) : Instr → Bool
  | .bootInit | .bootPwm | .bootLoad | .poll | .dbLead | .dbHold | .dbTrail | .advance | .persist | .render | .flkPause
  | .brtStep => true
  | .renderOff => true
  | .renderStatic1 | .renderStatic2 | .renderStatic3 | .renderStatic4 | .renderStatic5 | .renderStatic6 | .renderStatic7 =>
      v == .panel
  | .renderFlicker | .renderBreathe | .renderSolo1 | .renderSolo2 | .renderSolo3 | .renderSolo4 => v == .demo
  | .renderRecover mode => decide (v.modeCount ≤ mode.toNat)
  | .setchAll _ | .setchCh1 _ | .setchCh2 _ | .setchCh3 _ | .setchCh4 _ => true
  | .setchUnrec sel _ => decide (5 ≤ sel.toNat)
  | .settab _ _ _ _ => true

end Sys2Proof
end

