-- ==== Sys2Proof/Decode.lean ====
section
/-! DEFINITION. The decoder, total on every word of every format and rejecting by name; the encoder; and the operation map of
spec/opcode_table.json as a list of rows (30_encoding.md R37 to R46). -/

namespace Sys2Proof

/-! ## Format PH -/

/-- The 4-bit code of a phase (10_state.md R13, decision D5). -/
def Phase.code : Phase → BitVec 4
  | .bootInit => 0
  | .bootPwm => 1
  | .bootLoad => 2
  | .poll => 3
  | .dbLead => 4
  | .dbHold => 5
  | .dbTrail => 6
  | .advance => 7
  | .persist => 8
  | .render => 9
  | .flkPause => 10
  | .brtStep => 11

/-- The phase of a 4-bit code; codes 12 to 15 are no phase (30_encoding.md R45). -/
def Phase.ofCode (c : BitVec 4) : Option Phase :=
  match c.toNat with
  | 0 => some .bootInit
  | 1 => some .bootPwm
  | 2 => some .bootLoad
  | 3 => some .poll
  | 4 => some .dbLead
  | 5 => some .dbHold
  | 6 => some .dbTrail
  | 7 => some .advance
  | 8 => some .persist
  | 9 => some .render
  | 10 => some .flkPause
  | 11 => some .brtStep
  | _ => none

/-- The phase operation of a phase (30_encoding.md R38). -/
def Phase.instr : Phase → Instr
  | .bootInit => .bootInit
  | .bootPwm => .bootPwm
  | .bootLoad => .bootLoad
  | .poll => .poll
  | .dbLead => .dbLead
  | .dbHold => .dbHold
  | .dbTrail => .dbTrail
  | .advance => .advance
  | .persist => .persist
  | .render => .render
  | .flkPause => .flkPause
  | .brtStep => .brtStep

/-! ## Format M -/

/-- The render operation a mode byte selects: the two maps of 30_encoding.md R39 and R40, in the order of 43_mode_fsm.md R74.
The byte is looked at first, so that bytes both variants treat alike need no variant. -/
def decodeRender (v : Variant) (mode : Byte) : RenderOp :=
  match mode.toNat, v with
  | 0, _ => .off
  | 1, .panel => .static1
  | 2, .panel => .static2
  | 3, .panel => .static3
  | 4, .panel => .static4
  | 5, .panel => .static5
  | 6, .panel => .static6
  | 7, .panel => .static7
  | 1, .demo => .flicker
  | 2, .demo => .breathe
  | 3, .demo => .solo1
  | 4, .demo => .solo2
  | 5, .demo => .solo3
  | 6, .demo => .solo4
  | _, _ => .recover

/-- The instruction of a render operation selected by the byte `mode`. -/
def RenderOp.instr (mode : Byte) : RenderOp → Instr
  | .off => .renderOff
  | .static1 => .renderStatic1
  | .static2 => .renderStatic2
  | .static3 => .renderStatic3
  | .static4 => .renderStatic4
  | .static5 => .renderStatic5
  | .static6 => .renderStatic6
  | .static7 => .renderStatic7
  | .flicker => .renderFlicker
  | .breathe => .renderBreathe
  | .solo1 => .renderSolo1
  | .solo2 => .renderSolo2
  | .solo3 => .renderSolo3
  | .solo4 => .renderSolo4
  | .recover => .renderRecover mode

/-! ## Formats S and T -/

/-- `sel[18:16]` of a format `S` word (30_encoding.md R41). -/
def selOf (w : BitVec 19) : Selector := w.extractLsb' 16 3

/-- `duty[15:0]` of a format `S` word (30_encoding.md R41). -/
def dutyOf (w : BitVec 19) : Duty := w.extractLsb' 0 16

/-- The command of a format `S` word: every selector has one (30_encoding.md R41). -/
def decodeSetch (w : BitVec 19) : Instr :=
  match (selOf w).toNat with
  | 0 => .setchAll (dutyOf w)
  | 1 => .setchCh1 (dutyOf w)
  | 2 => .setchCh2 (dutyOf w)
  | 3 => .setchCh3 (dutyOf w)
  | 4 => .setchCh4 (dutyOf w)
  | _ => .setchUnrec (selOf w) (dutyOf w)

/-- The command of a format `T` word `{t4, t3, t2, t1}` (30_encoding.md R42). -/
def decodeSettab (w : BitVec 64) : Instr :=
  .settab (w.extractLsb' 0 16) (w.extractLsb' 16 16) (w.extractLsb' 32 16) (w.extractLsb' 48 16)

/-! ## The decoder -/

/-- Why a word selects no operation. -/
inductive DecodeError where
  /-- A phase code of 12 to 15: reserved, and no value of `PH` (30_encoding.md R45; U9: refuse to represent). -/
  | reservedPhase (code : BitVec 4)
  deriving DecidableEq, Repr

/-- The instruction a word selects in a build variant. -/
def decode (v : Variant) : CodeWord → Except DecodeError Instr
  | .ph c =>
    match Phase.ofCode c with
    | some p => .ok p.instr
    | none => .error (.reservedPhase c)
  | .m mode => .ok ((decodeRender v mode).instr mode)
  | .s w => .ok (decodeSetch w)
  | .t w => .ok (decodeSettab w)

/-! ## The encoder -/

/-- A format `S` word from its two fields (30_encoding.md R41). -/
def packSetch (sel : Selector) (duty : Duty) : CodeWord := .s (sel ++ duty)

/-- The word of an instruction, written from the encoding tables (30_encoding.md R38 to R42). -/
def encode : Instr → CodeWord
  | .bootInit => .ph 0b0000
  | .bootPwm => .ph 0b0001
  | .bootLoad => .ph 0b0010
  | .poll => .ph 0b0011
  | .dbLead => .ph 0b0100
  | .dbHold => .ph 0b0101
  | .dbTrail => .ph 0b0110
  | .advance => .ph 0b0111
  | .persist => .ph 0b1000
  | .render => .ph 0b1001
  | .flkPause => .ph 0b1010
  | .brtStep => .ph 0b1011
  | .renderOff => .m 0b00000000
  | .renderStatic1 => .m 0b00000001
  | .renderStatic2 => .m 0b00000010
  | .renderStatic3 => .m 0b00000011
  | .renderStatic4 => .m 0b00000100
  | .renderStatic5 => .m 0b00000101
  | .renderStatic6 => .m 0b00000110
  | .renderStatic7 => .m 0b00000111
  | .renderFlicker => .m 0b00000001
  | .renderBreathe => .m 0b00000010
  | .renderSolo1 => .m 0b00000011
  | .renderSolo2 => .m 0b00000100
  | .renderSolo3 => .m 0b00000101
  | .renderSolo4 => .m 0b00000110
  | .renderRecover mode => .m mode
  | .setchAll d => packSetch 0b000 d
  | .setchCh1 d => packSetch 0b001 d
  | .setchCh2 d => packSetch 0b010 d
  | .setchCh3 d => packSetch 0b011 d
  | .setchCh4 d => packSetch 0b100 d
  | .setchUnrec sel d => packSetch sel d
  | .settab t1 t2 t3 t4 => .t (t4 ++ t3 ++ t2 ++ t1)

/-! ## The operation map -/

/-- The four formats that select operations (30_encoding.md R37). -/
inductive Format where
  | ph | m | s | t
  deriving DecidableEq, Repr

/-- The format a word stands in. -/
def CodeWord.format : CodeWord → Format
  | .ph _ => .ph
  | .m _ => .m
  | .s _ => .s
  | .t _ => .t

/-- The bits of a word as one number, bit 0 the least significant. -/
def CodeWord.bits : CodeWord → Nat
  | .ph c => c.toNat
  | .m b => b.toNat
  | .s w => w.toNat
  | .t w => w.toNat

/-- One row of spec/opcode_table.json; `variant` is `none` where the table says `any`. -/
structure Row where
  mnemonic : String
  format : Format
  value : Nat
  mask : Nat
  variant : Option Variant
  deriving DecidableEq, Repr

/-- "A value `v` selects the row when `v and mask = match`", and a decoder for one variant uses the rows of that variant and
the rows marked `any` (30_encoding.md, layout of the table). -/
def Row.selects (v : Variant) (w : CodeWord) (r : Row) : Bool :=
  (r.format == w.format) && (r.variant == none || r.variant == some v) && (w.bits &&& r.mask == r.value)

/-- The rows of format `PH`. -/
def phaseRows : List Row := [
  ⟨"BOOT_INIT", .ph, 0x0, 0xf, none⟩,
  ⟨"BOOT_PWM", .ph, 0x1, 0xf, none⟩,
  ⟨"BOOT_LOAD", .ph, 0x2, 0xf, none⟩,
  ⟨"POLL", .ph, 0x3, 0xf, none⟩,
  ⟨"DB_LEAD", .ph, 0x4, 0xf, none⟩,
  ⟨"DB_HOLD", .ph, 0x5, 0xf, none⟩,
  ⟨"DB_TRAIL", .ph, 0x6, 0xf, none⟩,
  ⟨"ADVANCE", .ph, 0x7, 0xf, none⟩,
  ⟨"PERSIST", .ph, 0x8, 0xf, none⟩,
  ⟨"RENDER", .ph, 0x9, 0xf, none⟩,
  ⟨"FLK_PAUSE", .ph, 0xa, 0xf, none⟩,
  ⟨"BRT_STEP", .ph, 0xb, 0xf, none⟩]

/-- The rows of format `M`. -/
def modeRows : List Row := [
  ⟨"RENDER.OFF", .m, 0x0, 0xff, none⟩,
  ⟨"RENDER.STATIC1", .m, 0x1, 0xff, some .panel⟩,
  ⟨"RENDER.STATIC2", .m, 0x2, 0xff, some .panel⟩,
  ⟨"RENDER.STATIC3", .m, 0x3, 0xff, some .panel⟩,
  ⟨"RENDER.STATIC4", .m, 0x4, 0xff, some .panel⟩,
  ⟨"RENDER.STATIC5", .m, 0x5, 0xff, some .panel⟩,
  ⟨"RENDER.STATIC6", .m, 0x6, 0xff, some .panel⟩,
  ⟨"RENDER.STATIC7", .m, 0x7, 0xff, some .panel⟩,
  ⟨"RENDER.FLICKER", .m, 0x1, 0xff, some .demo⟩,
  ⟨"RENDER.BREATHE", .m, 0x2, 0xff, some .demo⟩,
  ⟨"RENDER.SOLO1", .m, 0x3, 0xff, some .demo⟩,
  ⟨"RENDER.SOLO2", .m, 0x4, 0xff, some .demo⟩,
  ⟨"RENDER.SOLO3", .m, 0x5, 0xff, some .demo⟩,
  ⟨"RENDER.SOLO4", .m, 0x6, 0xff, some .demo⟩,
  ⟨"RENDER.RECOVER", .m, 0x7, 0xff, some .demo⟩,
  ⟨"RENDER.RECOVER", .m, 0x8, 0xf8, none⟩,
  ⟨"RENDER.RECOVER", .m, 0x10, 0xf0, none⟩,
  ⟨"RENDER.RECOVER", .m, 0x20, 0xe0, none⟩,
  ⟨"RENDER.RECOVER", .m, 0x40, 0xc0, none⟩,
  ⟨"RENDER.RECOVER", .m, 0x80, 0x80, none⟩]

/-- The rows of format `S`. -/
def setchRows : List Row := [
  ⟨"SETCH.ALL", .s, 0x0, 0x70000, none⟩,
  ⟨"SETCH.CH1", .s, 0x10000, 0x70000, none⟩,
  ⟨"SETCH.CH2", .s, 0x20000, 0x70000, none⟩,
  ⟨"SETCH.CH3", .s, 0x30000, 0x70000, none⟩,
  ⟨"SETCH.CH4", .s, 0x40000, 0x70000, none⟩,
  ⟨"SETCH.UNREC", .s, 0x50000, 0x70000, none⟩,
  ⟨"SETCH.UNREC", .s, 0x60000, 0x60000, none⟩]

/-- The rows of format `T`. -/
def settabRows : List Row := [
  ⟨"SETTAB", .t, 0x0, 0x0, none⟩]

/-- The 40 rows of spec/opcode_table.json. -/
def opcodeRows : List Row := phaseRows ++ modeRows ++ setchRows ++ settabRows

/-- The mnemonic of an instruction, as the table spells it. -/
def Instr.mnemonic : Instr → String
  | .bootInit => "BOOT_INIT"
  | .bootPwm => "BOOT_PWM"
  | .bootLoad => "BOOT_LOAD"
  | .poll => "POLL"
  | .dbLead => "DB_LEAD"
  | .dbHold => "DB_HOLD"
  | .dbTrail => "DB_TRAIL"
  | .advance => "ADVANCE"
  | .persist => "PERSIST"
  | .render => "RENDER"
  | .flkPause => "FLK_PAUSE"
  | .brtStep => "BRT_STEP"
  | .renderOff => "RENDER.OFF"
  | .renderStatic1 => "RENDER.STATIC1"
  | .renderStatic2 => "RENDER.STATIC2"
  | .renderStatic3 => "RENDER.STATIC3"
  | .renderStatic4 => "RENDER.STATIC4"
  | .renderStatic5 => "RENDER.STATIC5"
  | .renderStatic6 => "RENDER.STATIC6"
  | .renderStatic7 => "RENDER.STATIC7"
  | .renderFlicker => "RENDER.FLICKER"
  | .renderBreathe => "RENDER.BREATHE"
  | .renderSolo1 => "RENDER.SOLO1"
  | .renderSolo2 => "RENDER.SOLO2"
  | .renderSolo3 => "RENDER.SOLO3"
  | .renderSolo4 => "RENDER.SOLO4"
  | .renderRecover _ => "RENDER.RECOVER"
  | .setchAll _ => "SETCH.ALL"
  | .setchCh1 _ => "SETCH.CH1"
  | .setchCh2 _ => "SETCH.CH2"
  | .setchCh3 _ => "SETCH.CH3"
  | .setchCh4 _ => "SETCH.CH4"
  | .setchUnrec _ _ => "SETCH.UNREC"
  | .settab _ _ _ _ => "SETTAB"

/-! ## Words by their number of bits -/

/-- The word of a row of the table, from its number of bits in whole bytes and its bits as one number. The formats `PH` and `M`
both fill one byte and share words, so the number of bits does not say which is meant: a byte below 12 is read as a phase code,
any other as a mode byte (log 10). -/
def tableWord (nbits w : Nat) : Option CodeWord :=
  if nbits ≤ 8 then
    if w % 256 < 12 then some (.ph (BitVec.ofNat 4 w)) else some (.m (BitVec.ofNat 8 w))
  else if nbits ≤ 24 then some (.s (BitVec.ofNat 19 w))
  else if nbits ≤ 64 then some (.t (BitVec.ofNat 64 w))
  else none

/-- The instruction the decoder reads from the bits of a row of the table. The variant matters to mode bytes below 8 only, and
`tableWord` gives none of these. -/
def decodeTableWord (nbits w : Nat) : Option Instr :=
  match tableWord nbits w with
  | some c => (decode .panel c).toOption
  | none => none

end Sys2Proof
end

