-- ==== Sys2Proof/Machine/Operands.lean ====
section
/-! DEFINITION. How the operations assemble their operands (30_encoding.md R44): zero extensions of naturals, nothing signed. -/

namespace Sys2Proof.Machine

/-- The mode a byte of the store stands for: itself if in range, else 0 (42_store.md R69, 30_encoding.md R43). -/
def clampMode (v : Variant) (b : Byte) : Byte := if b.toNat < v.modeCount then b else 0

/-- `(MODE + 1) mod N` on naturals (43_mode_fsm.md R73). -/
def nextMode (v : Variant) (m : Byte) : Byte := BitVec.ofNat 8 ((m.toNat + 1) % v.modeCount)

/-- `zext_16(in.rnd_duty mod 40)` (43_mode_fsm.md R86). -/
def flickerDuty (i : Inputs) : Duty := BitVec.ofNat 16 (i.rndDuty.toNat % Config.flickerDutyRange)

/-- `(in.rnd_sel mod 5)[2:0]` (43_mode_fsm.md R86). -/
def flickerSel (i : Inputs) : Selector := BitVec.ofNat 3 (i.rndSel.toNat % Config.selectorCount)

/-- `zext_16(breathe_duty(i))`, `i = 0..254`: up to 127 and down again (43_mode_fsm.md R88). A free value for any other index
(log 15). -/
def breatheDuty (i : Nat) : Duty :=
  if i ≤ Config.breatheMax then BitVec.ofNat 16 i
  else if i ≤ Config.sweepLast then BitVec.ofNat 16 (Config.sweepLast - i)
  else Config.dutyPastSweep i

/-- The selector `ANIM_CH + 1`, computed on 3 bits, 1 to 4 (30_encoding.md R44). -/
def animSel (c : BitVec 2) : Selector := c.setWidth 3 + 1

/-- `ANIM_POS + 1`, which fits for every position of a sweep (43_mode_fsm.md R90). A free value after 255 (log 15). -/
def nextPos (p : Byte) : Byte := if p = 255 then Config.posPastSweep else p + 1

/-- `DUTY_TABLE[1]`, given by the document's scenario (43_mode_fsm.md R77). -/
def row1 : DutyRow := ⟨2, 2, 2, 2⟩

/-- `DUTY_TABLE[2]`, given by the document's scenario (43_mode_fsm.md R78). -/
def row2 : DutyRow := ⟨21, 18, 14, 19⟩

end Sys2Proof.Machine
end

