-- ==== Sys2Proof/Machine/ModeFsm.lean ====
section
/-! DEFINITION. The mode state machine: the advance on a press, the render operations of both variants, and the two animation
phases (43_mode_fsm.md R73 to R95). -/

namespace Sys2Proof.Machine

/-- `ADVANCE`: the transition on a confirmed press (43_mode_fsm.md R73). -/
def execAdvance (s : State) : Host.Outcome State Fault Refusal :=
  .next ((s.enterMode (nextMode s.params.variant s.mode)).goto .persist)

/-- `RENDER.OFF`: all channels off, and on to mode 1 without a store (43_mode_fsm.md R75). -/
def execRenderOff (s : State) : Host.Outcome State Fault Refusal :=
  .next (((s.setch 0 0).enterMode 1).goto .poll)

/-- `RENDER.RECOVER`: all channels off, and back to mode 0 without a store (43_mode_fsm.md R84). -/
def execRenderRecover (s : State) : Host.Outcome State Fault Refusal :=
  .next (((s.setch 0 0).enterMode 0).goto .poll)

/-- The general form of a static operation (43_mode_fsm.md R76). -/
def renderRow (r : DutyRow) (s : State) : State :=
  (s.settab (zext16 r.ch1) (zext16 r.ch2) (zext16 r.ch3) (zext16 r.ch4)).goto .poll

/-- `RENDER.STATIC1` (43_mode_fsm.md R77). -/
def execRenderStatic1 (s : State) : Host.Outcome State Fault Refusal := .next (renderRow row1 s)

/-- `RENDER.STATIC2` (43_mode_fsm.md R78). -/
def execRenderStatic2 (s : State) : Host.Outcome State Fault Refusal := .next (renderRow row2 s)

/-- `RENDER.STATIC3` (43_mode_fsm.md R79). -/
def execRenderStatic3 (s : State) : Host.Outcome State Fault Refusal := .next (renderRow s.params.row3 s)

/-- `RENDER.STATIC4` (43_mode_fsm.md R80). -/
def execRenderStatic4 (s : State) : Host.Outcome State Fault Refusal := .next (renderRow s.params.row4 s)

/-- `RENDER.STATIC5` (43_mode_fsm.md R81). -/
def execRenderStatic5 (s : State) : Host.Outcome State Fault Refusal := .next (renderRow s.params.row5 s)

/-- `RENDER.STATIC6` (43_mode_fsm.md R82). -/
def execRenderStatic6 (s : State) : Host.Outcome State Fault Refusal := .next (renderRow s.params.row6 s)

/-- `RENDER.STATIC7` (43_mode_fsm.md R83). -/
def execRenderStatic7 (s : State) : Host.Outcome State Fault Refusal := .next (renderRow s.params.row7 s)

/-- `RENDER.FLICKER`: apply the two draws, then pause (43_mode_fsm.md R86). -/
def execRenderFlicker (s : State) : Host.Outcome State Fault Refusal :=
  .next (((s.setch (flickerDuty s.input) (flickerSel s.input)).loadDelay s.params.flickerTicks).goto .flkPause)

/-- `FLK_PAUSE`: the pause after a flicker step (43_mode_fsm.md R87). -/
def execFlkPause (s : State) : Host.Outcome State Fault Refusal :=
  .next (s.delayTick (State.goto .poll))

/-- `RENDER.BREATHE`: the first step of a sweep on the current channel (43_mode_fsm.md R89). -/
def execRenderBreathe (s : State) : Host.Outcome State Fault Refusal :=
  .next ((((s.setch (breatheDuty 0) (animSel s.animCh)).setCursor s.animCh 0).loadDelay s.params.breatheTicks).goto .brtStep)

/-- Case (b) of `BRT_STEP`: the sweep is complete (43_mode_fsm.md R90). -/
def endSweep (s : State) : State := (s.setCursor (s.animCh + 1) 0).goto .poll

/-- Case (c) of `BRT_STEP`: the next step of the sweep (43_mode_fsm.md R90). -/
def nextSweepStep (s : State) : State :=
  ((s.setch (breatheDuty (s.animPos.toNat + 1)) (animSel s.animCh)).setCursor s.animCh (nextPos s.animPos)).loadDelay
    s.params.breatheTicks

/-- `BRT_STEP`: (a) a delay tick, (b) the end of the sweep, (c) the next step (43_mode_fsm.md R90). -/
def execBrtStep (s : State) : Host.Outcome State Fault Refusal :=
  .next (s.delayTick fun s => if s.animPos.toNat = Config.sweepLast then endSweep s else nextSweepStep s)

/-- `RENDER.SOLO1` (43_mode_fsm.md R91, R92). -/
def execRenderSolo1 (s : State) : Host.Outcome State Fault Refusal :=
  .next ((s.setch (zext16 s.params.soloDuty) 1).goto .poll)

/-- `RENDER.SOLO2` (43_mode_fsm.md R91, R93). -/
def execRenderSolo2 (s : State) : Host.Outcome State Fault Refusal :=
  .next ((s.setch (zext16 s.params.soloDuty) 2).goto .poll)

/-- `RENDER.SOLO3` (43_mode_fsm.md R91, R94). -/
def execRenderSolo3 (s : State) : Host.Outcome State Fault Refusal :=
  .next ((s.setch (zext16 s.params.soloDuty) 3).goto .poll)

/-- `RENDER.SOLO4` (43_mode_fsm.md R91, R95). -/
def execRenderSolo4 (s : State) : Host.Outcome State Fault Refusal :=
  .next ((s.setch (zext16 s.params.soloDuty) 4).goto .poll)

/-- `RENDER`: decode `MODE` and perform the render operation it selects (43_mode_fsm.md R74). -/
def execRender (s : State) : Host.Outcome State Fault Refusal :=
  match decodeRender s.params.variant s.mode with
  | .off => execRenderOff s
  | .static1 => execRenderStatic1 s
  | .static2 => execRenderStatic2 s
  | .static3 => execRenderStatic3 s
  | .static4 => execRenderStatic4 s
  | .static5 => execRenderStatic5 s
  | .static6 => execRenderStatic6 s
  | .static7 => execRenderStatic7 s
  | .flicker => execRenderFlicker s
  | .breathe => execRenderBreathe s
  | .solo1 => execRenderSolo1 s
  | .solo2 => execRenderSolo2 s
  | .solo3 => execRenderSolo3 s
  | .solo4 => execRenderSolo4 s
  | .recover => execRenderRecover s

end Sys2Proof.Machine
end

