-- ==== Sys2Proof/Machine/Store.lean ====
section
/-! DEFINITION. The persistent mode store (42_store.md R69, R70). -/

namespace Sys2Proof.Machine

/-- `BOOT_LOAD`: load the mode, clamped into range; the store is not written (42_store.md R69). -/
def execBootLoad (s : State) : Host.Outcome State Fault Refusal :=
  .next ((s.enterMode (clampMode s.params.variant s.nvRead)).goto .poll)

/-- `PERSIST`: hold the write request until `nv_done`; at that tick the platform has `NV = MODE` (42_store.md R70,
44_main_loop.md R101). -/
def execPersist (s : State) : Host.Outcome State Fault Refusal :=
  .next (if s.input.nvDone then (s.nvWrite s.mode).goto .render else s)

end Sys2Proof.Machine
end

