-- ==== Sys2Proof/Machine/Dispatch.lean ====
section
/-! DEFINITION. The dispatch of an instruction to its meaning: one arm per constructor of `Instr`. -/

namespace Sys2Proof.Machine

def exec (i : Instr) (s : State) : Host.Outcome State Fault Refusal :=
  match i with
  | .bootInit => Sys2Proof.Machine.execBootInit s
  | .bootPwm => Sys2Proof.Machine.execBootPwm s
  | .bootLoad => Sys2Proof.Machine.execBootLoad s
  | .poll => Sys2Proof.Machine.execPoll s
  | .dbLead => Sys2Proof.Machine.execDbLead s
  | .dbHold => Sys2Proof.Machine.execDbHold s
  | .dbTrail => Sys2Proof.Machine.execDbTrail s
  | .advance => Sys2Proof.Machine.execAdvance s
  | .persist => Sys2Proof.Machine.execPersist s
  | .render => Sys2Proof.Machine.execRender s
  | .flkPause => Sys2Proof.Machine.execFlkPause s
  | .brtStep => Sys2Proof.Machine.execBrtStep s
  | .renderOff => Sys2Proof.Machine.execRenderOff s
  | .renderStatic1 => Sys2Proof.Machine.execRenderStatic1 s
  | .renderStatic2 => Sys2Proof.Machine.execRenderStatic2 s
  | .renderStatic3 => Sys2Proof.Machine.execRenderStatic3 s
  | .renderStatic4 => Sys2Proof.Machine.execRenderStatic4 s
  | .renderStatic5 => Sys2Proof.Machine.execRenderStatic5 s
  | .renderStatic6 => Sys2Proof.Machine.execRenderStatic6 s
  | .renderStatic7 => Sys2Proof.Machine.execRenderStatic7 s
  | .renderFlicker => Sys2Proof.Machine.execRenderFlicker s
  | .renderBreathe => Sys2Proof.Machine.execRenderBreathe s
  | .renderSolo1 => Sys2Proof.Machine.execRenderSolo1 s
  | .renderSolo2 => Sys2Proof.Machine.execRenderSolo2 s
  | .renderSolo3 => Sys2Proof.Machine.execRenderSolo3 s
  | .renderSolo4 => Sys2Proof.Machine.execRenderSolo4 s
  | .renderRecover _ => Sys2Proof.Machine.execRenderRecover s
  | .setchAll duty => Sys2Proof.Machine.execSetchAll duty s
  | .setchCh1 duty => Sys2Proof.Machine.execSetchCh1 duty s
  | .setchCh2 duty => Sys2Proof.Machine.execSetchCh2 duty s
  | .setchCh3 duty => Sys2Proof.Machine.execSetchCh3 duty s
  | .setchCh4 duty => Sys2Proof.Machine.execSetchCh4 duty s
  | .setchUnrec sel duty => Sys2Proof.Machine.execSetchUnrec sel duty s
  | .settab t1 t2 t3 t4 => Sys2Proof.Machine.execSettab t1 t2 t3 t4 s

end Sys2Proof.Machine
end

