-- ==== Sys2Proof/Machine/Fetch.lean ====
section
/-! DEFINITION. Which operation a tick runs: the one the phase register selects (10_state.md R13, 44_main_loop.md R101), or the
command at the multiplexer's command input when it is exercised on its own (40_channel_driver.md R55, log 8). -/

namespace Sys2Proof.Machine

/-- The command word at the multiplexer's command input, in its format. -/
def muxCode : MuxWord → CodeWord
  | .setch w => .s w
  | .settab w => .t w

/-- The word that selects the operation of this tick. -/
def State.fetchWord (s : State) : CodeWord :=
  match s.muxIn with
  | some w => muxCode w
  | none => .ph s.ph.code

/-- The operation of this tick. Every phase and every command has one, so nothing is refused (44_main_loop.md R101). -/
def State.fetch (s : State) : Instr :=
  match s.muxIn with
  | some (.setch w) => decodeSetch w
  | some (.settab w) => decodeSettab w
  | none => s.ph.instr

/-- Puts a word where it is fetched: a phase code into `PH`, a mode byte into `MODE` with `PH = RENDER`, which decodes it, a
command at the command input (log 11). A reserved phase code cannot be placed. -/
def State.placeWord (w : CodeWord) (s : State) : State :=
  match w with
  | .ph c => { s with ph := (Phase.ofCode c).getD s.ph, muxIn := none }
  | .m b => { s with ph := .render, mode := b, muxIn := none }
  | .s c => { s with muxIn := some (.setch c) }
  | .t c => { s with muxIn := some (.settab c) }

/-- The next tick samples `rst_n = 1`, as it must to run an operation at all; its other inputs are as they were. -/
def State.holdReset (s : State) : State :=
  { s with stimulus := { s.input with rstN := true } :: s.stimulus.tail }

end Sys2Proof.Machine
end

