-- ==== Sys2Proof/Machine/Step.lean ====
section
/-! DEFINITION. The step function of 44_main_loop.md R101. -/

namespace Sys2Proof.Machine

/-- `s(n+1) = step(s(n), in(n))` (00_scope.md R6, 44_main_loop.md R101): `rst_n = 0` overrides everything; else the tick runs
its one operation and the synchronizer. -/
def step (s : State) : Host.Outcome State Fault Refusal :=
  if s.input.rstN then
    match exec s.fetch s with
    | .next t => .next (s.endTick t)
    | .fault f => .fault f
    | .refused r => .refused r
  else .next s.resetTick

/-- `s` with the operation of a row of the table placed where the very next step fetches it (log 10, log 11). -/
def State.withFetchWord (s : State) (nbits w : Nat) : State :=
  match tableWord nbits w with
  | some c => (s.placeWord c).holdReset
  | none => s

end Sys2Proof.Machine
end

