-- ==== Sys2Proof/Machine/Flags.lean ====
section
/-! DEFINITION. The flags. The block has no status register and no condition codes; it has one predicate (10_state.md R20). -/

namespace Sys2Proof.Machine

/-- `press`: 1 exactly while `PH = ADVANCE` (10_state.md R20). -/
def State.press (s : State) : Bool := s.ph == .advance

/-- A write of the persistent byte is in flight exactly while `PH = PERSIST` (10_state.md R22). -/
def State.writeInFlight (s : State) : Bool := s.ph == .persist

end Sys2Proof.Machine
end

