-- ==== Sys2Proof/Machine/Outputs.lean ====
section
/-! DEFINITION. The output ports (10_state.md R19), every one a function of the state alone. -/

namespace Sys2Proof.Machine

/-- The output ports of 10_state.md R19; a one-bit port is `true` when it is 1. -/
structure Outputs where
  initReq : Bool
  pwmStart : Bool
  nvRe : Bool
  nvWe : Bool
  nvAddr : Nat
  nvWdata : Byte
  duty1 : Duty
  duty2 : Duty
  duty3 : Duty
  duty4 : Duty
  press : Bool
  deriving DecidableEq, Repr

/-- The value of every output port in a state (10_state.md R19). -/
def State.outputs (s : State) : Outputs where
  initReq := s.ph == .bootInit
  pwmStart := s.ph == .bootPwm
  nvRe := s.ph == .bootLoad
  nvWe := s.writeInFlight
  nvAddr := s.params.nvAddr
  nvWdata := s.mode
  duty1 := s.duty1
  duty2 := s.duty2
  duty3 := s.duty3
  duty4 := s.duty4
  press := s.press

end Sys2Proof.Machine
end

