-- ==== Sys2Proof/Safety.lean ====
section
/-! DEFINITION. What the statements speak of beside the machine: the inputs of the ticks to come, runs, and the invariants. The
block has no unsafe state to avoid (60_exceptions.md R109), so a safe run is one whose states keep the invariants. -/

namespace Sys2Proof.Machine

/-! ## The inputs to come -/

/-- `in(n + j)` seen from `s = s(n)`: the stimulus where it gives one, a free value where it does not. -/
def State.inputAt (s : State) (j : Nat) : Inputs := (s.stimulus[j]?).getD (Config.freeInputs (s.drawn + j))

/-- `SYNC1` in `s(n + j)` seen from `s = s(n)` while no tick resets: the button level of rule R12, two ticks behind the pin. -/
def State.levelAt (s : State) : Nat → Bool
  | 0 => s.sync1
  | 1 => s.sync0
  | j + 2 => (s.inputAt j).btnN

/-- The next `k` ticks sample `rst_n = 1`. -/
abbrev NoReset (s : State) (k : Nat) : Prop := ∀ j, j < k → (s.inputAt j).rstN = true

/-- `t` is the state `k` ticks after `s`. -/
abbrev After (k : Nat) (s t : State) : Prop := Sys2Proof.core.run k s = .next t

/-! ## What selects an operation -/

/-- The word `w` selects the operation `i`, in either variant. -/
abbrev Selects (w : CodeWord) (i : Instr) : Prop := ∀ v, decode v w = .ok i

/-! ## What is left alone -/

/-- The four duty registers of `t` are those of `s`. -/
abbrev SameDuties (s t : State) : Prop :=
  t.duty1 = s.duty1 ∧ t.duty2 = s.duty2 ∧ t.duty3 = s.duty3 ∧ t.duty4 = s.duty4

/-- Every byte of the persistent storage reads in `t` as in `s`. -/
abbrev SameStore (s t : State) : Prop := ∀ a, t.readByte a = s.readByte a

/-- The four duty registers hold `d1` to `d4`, as numbers. -/
abbrev Duties (s : State) (d1 d2 d3 d4 : Nat) : Prop :=
  s.duty1.toNat = d1 ∧ s.duty2.toNat = d2 ∧ s.duty3.toNat = d3 ∧ s.duty4.toNat = d4

/-! ## The sweep -/

/-- The duty of step `i` of a sweep as a number, `i = 0..254` (43_mode_fsm.md R88). -/
abbrev sweepDuty (i : Nat) : Nat := if i ≤ 127 then i else 254 - i

/-- The duty registers show step `i` of a sweep on channel index `c`: its duty there, 0 on the three others. -/
abbrev ShowsSweep (s : State) (c i : Nat) : Prop :=
  Duties s (if c = 0 then sweepDuty i else 0) (if c = 1 then sweepDuty i else 0) (if c = 2 then sweepDuty i else 0)
    (if c = 3 then sweepDuty i else 0)

/-! ## The transition graph -/

/-- The successor of `PH` under `rst_n = 1`, the table of 44_main_loop.md R107 line by line. -/
def graphNext (s : State) : Phase :=
  match s.ph with
  | .bootInit => if s.input.initDone then .bootPwm else .bootInit
  | .bootPwm => .bootLoad
  | .bootLoad => .poll
  | .poll => if s.sync1 then .render else .dbLead
  | .dbLead => if s.dly = 0 then .dbHold else .dbLead
  | .dbHold => if s.sync1 then .dbTrail else .dbHold
  | .dbTrail => if s.dly = 0 then .advance else .dbTrail
  | .advance => .persist
  | .persist => if s.input.nvDone then .render else .persist
  | .render =>
    if s.params.variant = .demo ∧ s.mode = 1 then .flkPause
    else if s.params.variant = .demo ∧ s.mode = 2 then .brtStep
    else .poll
  | .flkPause => if s.dly = 0 then .poll else .flkPause
  | .brtStep => if s.dly = 0 ∧ s.animPos = 254 then .poll else .brtStep

/-! ## The invariants -/

/-- `MODE < N` (43_mode_fsm.md R96). -/
abbrev ModeInRange (s : State) : Prop := s.mode.toNat < s.params.variant.modeCount

/-- The three phases entered only from reset (44_main_loop.md R107). -/
abbrev Booting (s : State) : Prop := s.ph = .bootInit ∨ s.ph = .bootPwm ∨ s.ph = .bootLoad

/-- Past the first render of a power-on period, `MODE` is 0 only while a wrapping press is stored and rendered
(43_mode_fsm.md R97 b). -/
abbrev RestingModeNonzero (s : State) : Prop :=
  ¬ Booting s ∧ ModeInRange s ∧ (s.ph ≠ .persist → s.ph ≠ .render → s.mode ≠ 0)

/-- The mode a reboot would load is `MODE`, or the mode from which `MODE` was reached by `OFF` alone (42_store.md R72 e). -/
abbrev RebootAgrees (s : State) : Prop :=
  ¬ Booting s → s.ph ≠ .persist →
    clampMode s.params.variant s.nv = s.mode ∨ (clampMode s.params.variant s.nv = 0 ∧ s.mode = 1)

/-- `DLY` is below the length of the delay in progress, and 0 in every phase that is no delay (10_state.md R14). -/
abbrev DelayInRange (s : State) : Prop :=
  ((s.ph = .dbLead ∨ s.ph = .dbTrail) → s.dly.toNat < s.params.settleTicks) ∧
  (s.ph = .flkPause → s.dly.toNat < s.params.flickerTicks) ∧
  (s.ph = .brtStep → s.dly.toNat < s.params.breatheTicks) ∧
  (s.ph ≠ .dbLead → s.ph ≠ .dbTrail → s.ph ≠ .flkPause → s.ph ≠ .brtStep → s.dly = 0)

/-- The panel variant never enters an animation phase and never moves the cursor (10_state.md R17, 30_encoding.md R46). -/
abbrev PanelStill (s : State) : Prop :=
  s.params.variant = .panel → s.ph ≠ .flkPause ∧ s.ph ≠ .brtStep ∧ s.animCh = 0 ∧ s.animPos = 0

/-- No duty register holds more than 4095, in the assembled block (40_channel_driver.md R58). -/
abbrev DutiesLogical (s : State) : Prop :=
  s.muxIn = none ∧ s.animPos.toNat ≤ 254 ∧
  s.duty1.toNat ≤ 4095 ∧ s.duty2.toNat ≤ 4095 ∧ s.duty3.toNat ≤ 4095 ∧ s.duty4.toNat ≤ 4095

/-- While a sweep runs, in mode 2 of the demo variant, the duty registers show the step that `ANIM_POS` and `ANIM_CH` name,
in the assembled block (10_state.md R17, 43_mode_fsm.md R88 to R90). -/
abbrev SweepShown (s : State) : Prop :=
  s.muxIn = none ∧ s.animPos.toNat ≤ 254 ∧
  (s.ph = .brtStep → s.params.variant = .demo ∧ s.mode = 2 ∧ ShowsSweep s s.animCh.toNat s.animPos.toNat)

end Sys2Proof.Machine
end

