-- ==== Sys2Proof/Certificates/Slice0/Obligations.lean ====
section
/-! DEFINITION. The statements for the provers, from the numbered rules of the spec. -/

open Sys2Proof Sys2Proof.Machine

/-! ## Encodings -/

/-- Decoding the word of a well-formed instruction gives it back, in either variant, for every operand. -/
def Obligations.DecodeEncodeRoundTrip : Prop :=
  ∀ (v : Variant) (i : Instr), i.wellFormed v = true → decode v (encode i) = .ok i

/-- A word that decodes is the word of the instruction it decodes to, and that instruction is well formed: no bit of any word is
dropped. -/
def Obligations.DecodedWordEncodesBack : Prop :=
  ∀ (v : Variant) (w : CodeWord) (i : Instr), decode v w = .ok i → encode i = w ∧ i.wellFormed v = true

/-- Each word that decodes is selected by exactly one row of the operation map for the variant, the row with the mnemonic of
the instruction decoded; a word that does not decode is selected by none. -/
def Obligations.EveryWordSelectsOneTableRow : Prop :=
  ∀ (v : Variant) (w : CodeWord),
    (∀ i, decode v w = .ok i → (opcodeRows.filter (Row.selects v w)).map Row.mnemonic = [i.mnemonic]) ∧
    (∀ e, decode v w = .error e → opcodeRows.filter (Row.selects v w) = [])

/-- The decoder rejects the phase codes 12 to 15, by name, and no other word of any format. -/
def Obligations.DecoderRefusesReservedCodesOnly : Prop :=
  ∀ (v : Variant) (w : CodeWord) (e : DecodeError),
    decode v w = .error e ↔ ∃ c : BitVec 4, w = .ph c ∧ 12 ≤ c.toNat ∧ e = .reservedPhase c

/-- Words written out from the spec's encodings decode to the operations they stand for. -/
def Obligations.SpecWordsDecode : Prop :=
  decode .panel (.ph 0b0011) = .ok .poll ∧
  decode .demo (.ph 0b1011) = .ok .brtStep ∧
  decode .panel (.m 0b00000010) = .ok .renderStatic2 ∧
  decode .demo (.m 0b00000010) = .ok .renderBreathe ∧
  decode .demo (.m 0b00000111) = .ok (.renderRecover 7) ∧
  decode .panel (.s 0x2012C) = .ok (.setchCh2 300) ∧
  decode .panel (.s 0x6012C) = .ok (.setchUnrec 6 300) ∧
  decode .panel (.t 0x0013000E00120015) = .ok (.settab 21 18 14 19)

/-- The model's own choice (logs 8, 10, 11): a word of the table placed by `withFetchWord` is what the very next tick runs, a
mode byte through `RENDER`. -/
def Obligations.PlacedTableWordRunsNext : Prop :=
  ∀ (s : State) (nbits w : Nat) (i : Instr), decodeTableWord nbits w = some i →
    (s.withFetchWord nbits w).input.rstN = true ∧
    ((s.withFetchWord nbits w).fetch = i ∨
      ((s.withFetchWord nbits w).fetch = .render ∧
        (decodeRender s.params.variant (s.withFetchWord nbits w).mode).instr (s.withFetchWord nbits w).mode = i)) ∧
    SameDuties s (s.withFetchWord nbits w) ∧ SameStore s (s.withFetchWord nbits w)

/-! ## The step -/

/-- At a tick that does not reset, the operation that the fetched word decodes to is run, and to the state it leaves the step
adds the synchronizer. For a state with a command at the command input, that the command is run in the place of the phase rule
is the model's own choice (log 8), and so is what becomes of the fields `stimulus`, `drawn` and `muxIn` (logs 1, 8 and 16). -/
def Obligations.StepRunsDecodedInstruction : Prop :=
  ∀ (s t : State) (i : Instr), s.input.rstN = true → decode s.params.variant s.fetchWord = .ok i → exec i s = .next t →
    step s = .next { t with
      sync0 := s.input.btnN, sync1 := s.sync0, stimulus := s.stimulus.tail, drawn := s.drawn + 1, muxIn := none }

/-- Every instruction completes in every state, with every operand; and the step function never faults and never refuses. -/
def Obligations.EveryInstructionCompletes : Prop :=
  (∀ (i : Instr) (s : State), ∃ t, exec i s = .next t) ∧ (∀ s : State, ∃ t, step s = .next t)

/-- The synchronizer runs at every tick that does not reset, whatever the operation; no operation writes either flop; and after
two ticks `SYNC1` is the pin as it was sampled at the first of them. -/
def Obligations.SynchronizerRunsEveryTick : Prop :=
  (∀ s t : State, s.input.rstN = true → step s = .next t → t.sync0 = s.input.btnN ∧ t.sync1 = s.sync0) ∧
  (∀ (i : Instr) (s t : State), exec i s = .next t → t.sync0 = s.sync0 ∧ t.sync1 = s.sync1) ∧
  (∀ s t : State, NoReset s 2 → After 2 s t → t.sync1 = (s.inputAt 0).btnN)

/-- One tick with `rst_n = 0`, from any state and in any phase, leaves every register at its reset value. -/
def Obligations.ResetTickSetsEveryRegister : Prop :=
  ∀ s : State, s.input.rstN = false → ∃ t, step s = .next t ∧
    t.sync0 = true ∧ t.sync1 = true ∧ t.ph = .bootInit ∧ t.dly = 0 ∧ t.mode = 0 ∧ Duties t 0 0 0 0 ∧
    t.animCh = 0 ∧ t.animPos = 0 ∧ t.params = s.params

/-- A tick with `rst_n = 0` leaves the persistent byte alone, except in `PERSIST`: there `nv_done = 1` at that tick completes the
write, so that the byte is `MODE`, and before `nv_done` the byte is whatever the platform leaves, which the model draws from the
inputs of that tick (the model's form of an arbitrary byte: log 5). No other byte of the storage changes. -/
def Obligations.ResetKeepsStoreUnlessWriteInFlight : Prop :=
  ∀ s t : State, s.input.rstN = false → step s = .next t →
    (∀ a, a ≠ s.params.nvAddr → t.readByte a = s.readByte a) ∧
    (s.ph ≠ .persist → t.nv = s.nv) ∧
    (s.ph = .persist → s.input.nvDone = true → t.nv = s.mode) ∧
    (s.ph = .persist → s.input.nvDone = false → t.nv = s.input.nvTorn)

/-- The machine right after reset: every register and every output port at the value of rule R24, and nothing recorded in the
storage, so that `NV` is a free value (the model's form of R31 a: log 4). -/
def Obligations.MachineAfterReset : Prop :=
  let s := State.reset
  s.sync0 = true ∧ s.sync1 = true ∧ s.ph = .bootInit ∧ s.dly = 0 ∧ s.mode = 0 ∧ Duties s 0 0 0 0 ∧ s.animCh = 0 ∧
  s.animPos = 0 ∧
  s.outputs.initReq = true ∧ s.outputs.pwmStart = false ∧ s.outputs.nvRe = false ∧ s.outputs.nvWe = false ∧
  s.outputs.nvWdata = 0 ∧ s.outputs.duty1 = 0 ∧ s.outputs.duty2 = 0 ∧ s.outputs.duty3 = 0 ∧ s.outputs.duty4 = 0 ∧
  s.outputs.press = false ∧ s.nv = Config.unwrittenByte s.params.nvAddr

/-- No tick, reset or not, changes a parameter: `VARIANT` cannot change while the block runs. -/
def Obligations.ParametersNeverChange : Prop :=
  ∀ s t : State, step s = .next t → t.params = s.params

/-- An input is ignored at every tick that does not sample it: two input vectors with `rst_n = 1` that agree on `btn_n` and on
the inputs the phase looks at give the same next state. -/
def Obligations.OnlySampledInputsMatter : Prop :=
  ∀ (s : State) (x y : Inputs) (rest : List Inputs),
    x.rstN = true → y.rstN = true → x.btnN = y.btnN →
    (s.ph = .bootInit → x.initDone = y.initDone) →
    (s.ph = .persist → x.nvDone = y.nvDone) →
    (s.ph = .render → s.params.variant = .demo → s.mode = 1 → x.rndDuty = y.rndDuty ∧ x.rndSel = y.rndSel) →
    step { s with stimulus := x :: rest } = step { s with stimulus := y :: rest }

/-- Every output port is the function of the state that rule R19 gives; `press` is 1 exactly in `ADVANCE`. -/
def Obligations.OutputPortsFollowState : Prop :=
  ∀ s : State,
    (s.outputs.initReq = true ↔ s.ph = .bootInit) ∧ (s.outputs.pwmStart = true ↔ s.ph = .bootPwm) ∧
    (s.outputs.nvRe = true ↔ s.ph = .bootLoad) ∧ (s.outputs.nvWe = true ↔ s.ph = .persist) ∧
    s.outputs.nvAddr = s.params.nvAddr ∧ s.outputs.nvWdata = s.mode ∧
    s.outputs.duty1 = s.duty1 ∧ s.outputs.duty2 = s.duty2 ∧ s.outputs.duty3 = s.duty3 ∧ s.outputs.duty4 = s.duty4 ∧
    (s.outputs.press = true ↔ s.ph = .advance)

/-- From any state, with `rst_n = 1`, `PH` takes exactly the transitions of the graph; `rst_n = 0` leads to `BOOT_INIT`. -/
def Obligations.PhaseTakesGraphTransitions : Prop :=
  ∀ s t : State, s.muxIn = none → step s = .next t →
    (s.input.rstN = true → t.ph = graphNext s) ∧ (s.input.rstN = false → t.ph = .bootInit)

/-! ## Boot -/

/-- `BOOT_INIT`, phase code 0, leaves on `init_done = 1` and waits otherwise; `BOOT_PWM`, phase code 1, takes one tick. Nothing but
`PH` changes. -/
def Obligations.BootInitAndBootPwmResults : Prop :=
  (Selects (.ph 0) .bootInit ∧ Selects (.ph 1) .bootPwm) ∧ ∀ s : State,
    (s.input.initDone = true → exec .bootInit s = .next { s with ph := .bootPwm }) ∧
    (s.input.initDone = false → exec .bootInit s = .next s) ∧
    exec .bootPwm s = .next { s with ph := .bootLoad }

/-- `BOOT_LOAD`, phase code 2, puts the persistent byte into `MODE` if it is in range and 0 otherwise, clears the cursor, and goes to `POLL`;
nothing else changes, the store included. -/
def Obligations.BootLoadClampsStoredByte : Prop :=
  Selects (.ph 2) .bootLoad ∧ ∀ s : State,
    (s.nv.toNat < s.params.variant.modeCount →
      exec .bootLoad s = .next { s with mode := s.nv, animCh := 0, animPos := 0, ph := .poll }) ∧
    (s.params.variant.modeCount ≤ s.nv.toNat →
      exec .bootLoad s = .next { s with mode := 0, animCh := 0, animPos := 0, ph := .poll })

/-- The first ticks after reset, `init_done` first sampled as 1 at tick `e`: `BOOT_INIT` to tick `e`, then `BOOT_PWM`,
`BOOT_LOAD`, and `POLL` at tick `e + 3` with the clamped byte in `MODE`, the duty registers and the store untouched. -/
def Obligations.BootReachesPollInThreeTicks : Prop :=
  ∀ (s : State) (e : Nat), s.ph = .bootInit → s.muxIn = none → NoReset s (e + 3) →
    (∀ j, j < e → (s.inputAt j).initDone = false) → (s.inputAt e).initDone = true →
    (∀ j, j ≤ e → ∃ u, After j s u ∧ u.ph = .bootInit ∧ SameDuties s u) ∧
    (∃ u, After (e + 1) s u ∧ u.ph = .bootPwm ∧ SameDuties s u) ∧
    (∃ u, After (e + 2) s u ∧ u.ph = .bootLoad ∧ SameDuties s u) ∧
    (∃ u, After (e + 3) s u ∧ u.ph = .poll ∧ SameDuties s u ∧ SameStore s u ∧
      u.mode.toNat = (if s.nv.toNat < s.params.variant.modeCount then s.nv.toNat else 0))

/-! ## The button -/

/-- `POLL`, phase code 3, tests the level: pressed starts the leading settle delay, released goes on to the render.
Nothing else changes. -/
def Obligations.PollTestsTheLevel : Prop :=
  Selects (.ph 3) .poll ∧ ∀ s : State,
    (s.sync1 = false →
      exec .poll s = .next { s with ph := .dbLead, dly := BitVec.ofNat 32 (s.params.settleTicks - 1) }) ∧
    (s.sync1 = true → exec .poll s = .next { s with ph := .render })

/-- The three plain delay phases, codes 4, 6 and 10: `DB_LEAD`, `DB_TRAIL` and `FLK_PAUSE` count `DLY` down and leave when it is 0, to `DB_HOLD`,
`ADVANCE` and `POLL`; nothing else changes. -/
def Obligations.DelayPhaseResults : Prop :=
  (Selects (.ph 4) .dbLead ∧ Selects (.ph 6) .dbTrail ∧ Selects (.ph 10) .flkPause) ∧ ∀ s : State,
    (s.dly ≠ 0 →
      exec .dbLead s = .next { s with dly := s.dly - 1 } ∧ exec .dbTrail s = .next { s with dly := s.dly - 1 } ∧
      exec .flkPause s = .next { s with dly := s.dly - 1 }) ∧
    (s.dly = 0 →
      exec .dbLead s = .next { s with ph := .dbHold } ∧ exec .dbTrail s = .next { s with ph := .advance } ∧
      exec .flkPause s = .next { s with ph := .poll })

/-- `DB_HOLD`, phase code 5, waits for the released level, every register as it is, and then starts the trailing settle delay. -/
def Obligations.DbHoldWaitsForRelease : Prop :=
  Selects (.ph 5) .dbHold ∧ ∀ s : State,
    (s.sync1 = true →
      exec .dbHold s = .next { s with ph := .dbTrail, dly := BitVec.ofNat 32 (s.params.settleTicks - 1) }) ∧
    (s.sync1 = false → exec .dbHold s = .next s)

/-- A delay phase entered with `DLY = T - 1` is occupied for exactly `T` ticks, `DLY` counting down to 0, and is then left for
its one successor. -/
def Obligations.DelayLastsExactlyItsTicks : Prop :=
  ∀ (s : State) (k : Nat) (q : Phase), s.muxIn = none →
    (s.ph = .dbLead ∧ q = .dbHold ∨ s.ph = .dbTrail ∧ q = .advance ∨ s.ph = .flkPause ∧ q = .poll) →
    s.dly.toNat = k → NoReset s (k + 1) →
    (∀ j, j ≤ k → ∃ u, After j s u ∧ u.ph = s.ph ∧ u.dly.toNat = k - j) ∧
    (∃ u, After (k + 1) s u ∧ u.ph = q ∧ u.dly = 0)

/-- The timing of one press: from the `POLL` that reads it, `S` ticks of `DB_LEAD`, `h` ticks of `DB_HOLD` up to the first
released level, `S` ticks of `DB_TRAIL`, and `press` for the first time at tick `2 S + h + 1`; `MODE`, the duty registers and
the store are as they were. -/
def Obligations.PressIsFirstReportedAtItsTick : Prop :=
  ∀ (s : State) (h : Nat), s.ph = .poll → s.muxIn = none → s.params.Valid → s.sync1 = false → 1 ≤ h →
    (∀ j, s.params.settleTicks < j → j < s.params.settleTicks + h → s.levelAt j = false) →
    s.levelAt (s.params.settleTicks + h) = true →
    NoReset s (2 * s.params.settleTicks + h + 1) →
    (∀ j, 1 ≤ j → j ≤ s.params.settleTicks → ∃ u, After j s u ∧ u.ph = .dbLead) ∧
    (∀ j, s.params.settleTicks < j → j ≤ s.params.settleTicks + h → ∃ u, After j s u ∧ u.ph = .dbHold) ∧
    (∀ j, s.params.settleTicks + h < j → j ≤ 2 * s.params.settleTicks + h → ∃ u, After j s u ∧ u.ph = .dbTrail) ∧
    (∃ u, After (2 * s.params.settleTicks + h + 1) s u ∧ u.ph = .advance ∧ u.press = true ∧ u.mode = s.mode ∧
      SameDuties s u ∧ SameStore s u)

/-- A button held for ever hangs the block: while every level read is pressed, `DB_HOLD` stays and every register but the two
flops is constant, the store too. -/
def Obligations.StuckButtonHangsInDbHold : Prop :=
  ∀ (s : State) (n : Nat), s.ph = .dbHold → s.muxIn = none → NoReset s n → (∀ j, j < n → s.levelAt j = false) →
    ∃ u, After n s u ∧ u.ph = .dbHold ∧ u.dly = s.dly ∧ u.mode = s.mode ∧ SameDuties s u ∧ u.animCh = s.animCh ∧
      u.animPos = s.animPos ∧ SameStore s u

/-! ## The mode and the store -/

/-- `ADVANCE`, phase code 7: `MODE <- (MODE + 1) mod N`, the cursor cleared, on to `PERSIST`; nothing else changes, the store
included; and `press` is 1 during its tick. -/
def Obligations.AdvanceIncrementsModuloN : Prop :=
  Selects (.ph 7) .advance ∧ ∀ s : State,
    (s.ph = .advance → s.outputs.press = true) ∧
    exec .advance s = .next { s with
      mode := BitVec.ofNat 8 ((s.mode.toNat + 1) % s.params.variant.modeCount), animCh := 0, animPos := 0,
      ph := .persist } ∧
    (BitVec.ofNat 8 ((s.mode.toNat + 1) % s.params.variant.modeCount)).toNat =
      (s.mode.toNat + 1) % s.params.variant.modeCount

/-- `PERSIST`, phase code 8: the request is out for the whole phase; while `nv_done = 0` nothing changes; with `nv_done = 1` the
byte at `NV_ADDR` is `MODE`, every other byte and every register but `PH` is as before, and the render follows. -/
def Obligations.PersistStoresModeWhenDone : Prop :=
  Selects (.ph 8) .persist ∧ ∀ s : State,
    (s.ph = .persist →
      s.outputs.nvWe = true ∧ s.outputs.nvAddr = s.params.nvAddr ∧ s.outputs.nvWdata = s.mode) ∧
    (s.input.nvDone = false → exec .persist s = .next s) ∧
    (s.input.nvDone = true → ∃ t, exec .persist s = .next t ∧ t = { s with ph := .render, mem := t.mem } ∧
      t.readByte s.params.nvAddr = s.mode ∧ ∀ a, a ≠ s.params.nvAddr → t.readByte a = s.readByte a)

/-- No operation but `PERSIST` changes a byte of the storage, and `PERSIST` changes none but the one at `NV_ADDR`. -/
def Obligations.OnlyPersistTouchesTheStore : Prop :=
  ∀ (i : Instr) (s t : State), exec i s = .next t →
    (i ≠ .persist → SameStore s t) ∧ (∀ a, a ≠ s.params.nvAddr → t.readByte a = s.readByte a)

/-- Over the machine's ticks that do not reset: a byte of the storage changes only at a `PERSIST` with `nv_done = 1`, the
platform then has `NV = MODE`, and `PERSIST` is entered only from `ADVANCE` and left only at such a tick. -/
def Obligations.StoreIsWrittenAfterAPressOnly : Prop :=
  ∀ s t : State, s.input.rstN = true → s.muxIn = none → step s = .next t →
    (¬ SameStore s t → s.ph = .persist ∧ s.input.nvDone = true) ∧
    (s.ph = .persist → t.ph ≠ .persist → s.input.nvDone = true ∧ t.ph = .render ∧ t.nv = s.mode ∧ t.mode = s.mode) ∧
    (s.ph ≠ .persist → t.ph = .persist → s.ph = .advance)

/-- Every operation that writes `MODE` clears the cursor at the same tick, and no other operation writes `MODE`: `RENDER` does
so through `OFF` and `RECOVER` only. -/
def Obligations.CursorIsClearedWithEveryModeWrite : Prop :=
  ∀ (i : Instr) (s t : State), exec i s = .next t →
    (i = .bootLoad ∨ i = .advance ∨ i = .renderOff ∨ (∃ m, i = .renderRecover m) → t.animCh = 0 ∧ t.animPos = 0) ∧
    (t.mode ≠ s.mode → t.animCh = 0 ∧ t.animPos = 0 ∧
      (i = .bootLoad ∨ i = .advance ∨ i = .renderOff ∨ (∃ m, i = .renderRecover m) ∨
        (i = .render ∧ (s.mode = 0 ∨ s.params.variant.modeCount ≤ s.mode.toNat))))

/-! ## The render operations -/

/-- `RENDER`, phase code 9, performs the one render operation that `VARIANT` and `MODE` select. -/
def Obligations.RenderPerformsTheSelectedOperation : Prop :=
  Selects (.ph 9) .render ∧ ∀ s : State,
    (s.mode = 0 → exec .render s = exec .renderOff s) ∧
    (s.params.variant = .panel →
      (s.mode = 1 → exec .render s = exec .renderStatic1 s) ∧ (s.mode = 2 → exec .render s = exec .renderStatic2 s) ∧
      (s.mode = 3 → exec .render s = exec .renderStatic3 s) ∧ (s.mode = 4 → exec .render s = exec .renderStatic4 s) ∧
      (s.mode = 5 → exec .render s = exec .renderStatic5 s) ∧ (s.mode = 6 → exec .render s = exec .renderStatic6 s) ∧
      (s.mode = 7 → exec .render s = exec .renderStatic7 s) ∧
      (8 ≤ s.mode.toNat → exec .render s = exec (.renderRecover s.mode) s)) ∧
    (s.params.variant = .demo →
      (s.mode = 1 → exec .render s = exec .renderFlicker s) ∧ (s.mode = 2 → exec .render s = exec .renderBreathe s) ∧
      (s.mode = 3 → exec .render s = exec .renderSolo1 s) ∧ (s.mode = 4 → exec .render s = exec .renderSolo2 s) ∧
      (s.mode = 5 → exec .render s = exec .renderSolo3 s) ∧ (s.mode = 6 → exec .render s = exec .renderSolo4 s) ∧
      (7 ≤ s.mode.toNat → exec .render s = exec (.renderRecover s.mode) s))

/-- `RENDER.OFF`, mode byte 0: all four duties 0, `MODE` 1, the cursor cleared, on to `POLL`; nothing else changes, the store included. -/
def Obligations.RenderOffResult : Prop :=
  Selects (.m 0) .renderOff ∧ ∀ s : State, exec .renderOff s = .next { s with
    duty1 := 0, duty2 := 0, duty3 := 0, duty4 := 0, mode := 1, animCh := 0, animPos := 0, ph := .poll }

/-- `RENDER.RECOVER`, every mode byte from `N` up: all four duties 0, `MODE` 0, the cursor cleared, on to `POLL`; nothing else
changes, the store included. -/
def Obligations.RenderRecoverResult : Prop :=
  (∀ (v : Variant) (m : Byte), v.modeCount ≤ m.toNat → decode v (.m m) = .ok (.renderRecover m)) ∧
  ∀ (m : Byte) (s : State), exec (.renderRecover m) s = .next { s with
    duty1 := 0, duty2 := 0, duty3 := 0, duty4 := 0, mode := 0, animCh := 0, animPos := 0, ph := .poll }

/-- `RENDER.STATIC1` to `RENDER.STATIC7`, mode bytes 1 to 7 of the panel variant, write their row of the duty table, element `k` to
channel `k`, and go to `POLL`; rows 1 and 2 are the document's, rows 3 to 7 the parameters; nothing else changes. -/
def Obligations.StaticOperationsWriteTheirRow : Prop :=
  (decode .panel (.m 1) = .ok .renderStatic1 ∧ decode .panel (.m 2) = .ok .renderStatic2 ∧
    decode .panel (.m 3) = .ok .renderStatic3 ∧ decode .panel (.m 4) = .ok .renderStatic4 ∧
    decode .panel (.m 5) = .ok .renderStatic5 ∧ decode .panel (.m 6) = .ok .renderStatic6 ∧
    decode .panel (.m 7) = .ok .renderStatic7) ∧
  ∀ s : State,
    exec .renderStatic1 s = .next { s with duty1 := 2, duty2 := 2, duty3 := 2, duty4 := 2, ph := .poll } ∧
    exec .renderStatic2 s = .next { s with duty1 := 21, duty2 := 18, duty3 := 14, duty4 := 19, ph := .poll } ∧
    (∀ (i : Instr) (r : DutyRow),
      (i = .renderStatic3 ∧ r = s.params.row3 ∨ i = .renderStatic4 ∧ r = s.params.row4 ∨
        i = .renderStatic5 ∧ r = s.params.row5 ∨ i = .renderStatic6 ∧ r = s.params.row6 ∨
        i = .renderStatic7 ∧ r = s.params.row7) →
      ∃ t, exec i s = .next t ∧ Duties t r.ch1.toNat r.ch2.toNat r.ch3.toNat r.ch4.toNat ∧
        t = { s with duty1 := t.duty1, duty2 := t.duty2, duty3 := t.duty3, duty4 := t.duty4, ph := .poll })

/-- `RENDER.SOLO1` to `RENDER.SOLO4`, mode bytes 3 to 6 of the demo variant, put `SOLO_DUTY` on their one channel and 0 on the
three others, and go to `POLL`; nothing else changes. -/
def Obligations.SoloOperationsLightOneChannel : Prop :=
  (decode .demo (.m 3) = .ok .renderSolo1 ∧ decode .demo (.m 4) = .ok .renderSolo2 ∧
    decode .demo (.m 5) = .ok .renderSolo3 ∧ decode .demo (.m 6) = .ok .renderSolo4) ∧
  ∀ (s : State) (i : Instr) (j : Nat),
    (i = .renderSolo1 ∧ j = 1 ∨ i = .renderSolo2 ∧ j = 2 ∨ i = .renderSolo3 ∧ j = 3 ∨ i = .renderSolo4 ∧ j = 4) →
    ∃ t, exec i s = .next t ∧
      Duties t (if j = 1 then s.params.soloDuty.toNat else 0) (if j = 2 then s.params.soloDuty.toNat else 0)
        (if j = 3 then s.params.soloDuty.toNat else 0) (if j = 4 then s.params.soloDuty.toNat else 0) ∧
      t = { s with duty1 := t.duty1, duty2 := t.duty2, duty3 := t.duty3, duty4 := t.duty4, ph := .poll }

/-- `RENDER.FLICKER`, mode byte 1 of the demo variant, puts the first draw modulo 40 on the channel the second draw modulo 5
selects, on all four for 0, and 0 on the others; then it starts the pause of `F` ticks. Nothing else changes. -/
def Obligations.FlickerAppliesBothDraws : Prop :=
  decode .demo (.m 1) = .ok .renderFlicker ∧ ∀ s : State, ∃ t, exec .renderFlicker s = .next t ∧
    (s.input.rndSel.toNat % 5 = 0 →
      Duties t (s.input.rndDuty.toNat % 40) (s.input.rndDuty.toNat % 40) (s.input.rndDuty.toNat % 40)
        (s.input.rndDuty.toNat % 40)) ∧
    (s.input.rndSel.toNat % 5 ≠ 0 →
      Duties t (if s.input.rndSel.toNat % 5 = 1 then s.input.rndDuty.toNat % 40 else 0)
        (if s.input.rndSel.toNat % 5 = 2 then s.input.rndDuty.toNat % 40 else 0)
        (if s.input.rndSel.toNat % 5 = 3 then s.input.rndDuty.toNat % 40 else 0)
        (if s.input.rndSel.toNat % 5 = 4 then s.input.rndDuty.toNat % 40 else 0)) ∧
    t = { s with
      duty1 := t.duty1, duty2 := t.duty2, duty3 := t.duty3, duty4 := t.duty4,
      dly := BitVec.ofNat 32 (s.params.flickerTicks - 1), ph := .flkPause }

/-- `RENDER.BREATHE`, mode byte 2 of the demo variant, starts a sweep at its first step, duty 0, so that all four duties are 0,
and starts the first delay of `B` ticks; `ANIM_CH`, `MODE` and everything else are unchanged. -/
def Obligations.BreatheStartsASweep : Prop :=
  decode .demo (.m 2) = .ok .renderBreathe ∧ ∀ s : State, exec .renderBreathe s = .next { s with
    duty1 := 0, duty2 := 0, duty3 := 0, duty4 := 0, animPos := 0,
    dly := BitVec.ofNat 32 (s.params.breatheTicks - 1), ph := .brtStep }

/-- `BRT_STEP`, phase code 11, at every position of a sweep: (a) a delay tick, (b) at the last position the channel index moves
on modulo 4 and the sweep ends, (c) the next step's duty on the current channel and the next delay. Nothing else changes in any
case. -/
def Obligations.BrtStepHasThreeCases : Prop :=
  Selects (.ph 11) .brtStep ∧ ∀ s : State, s.animPos.toNat ≤ 254 →
    (s.dly ≠ 0 → exec .brtStep s = .next { s with dly := s.dly - 1 }) ∧
    (s.dly = 0 → s.animPos = 254 → ∃ t, exec .brtStep s = .next t ∧ t.animCh.toNat = (s.animCh.toNat + 1) % 4 ∧
      t = { s with animCh := t.animCh, animPos := 0, ph := .poll }) ∧
    (s.dly = 0 → s.animPos ≠ 254 → ∃ t, exec .brtStep s = .next t ∧ t.animPos.toNat = s.animPos.toNat + 1 ∧
      ShowsSweep t s.animCh.toNat (s.animPos.toNat + 1) ∧
      t = { s with
        duty1 := t.duty1, duty2 := t.duty2, duty3 := t.duty3, duty4 := t.duty4, animPos := t.animPos,
        dly := BitVec.ofNat 32 (s.params.breatheTicks - 1) })

/-- The breathe sequence: 0, 1, ..., 127, 126, ..., 0 over the indices 0 to 254, the maximum once, each step changing it
by 1. -/
def Obligations.BreatheSequenceRisesAndFallsByOne : Prop :=
  (∀ i, i ≤ 127 → (breatheDuty i).toNat = i) ∧ (∀ i, 128 ≤ i → i ≤ 254 → (breatheDuty i).toNat = 254 - i) ∧
  (∀ i, i ≤ 254 → ((breatheDuty i).toNat = 127 ↔ i = 127)) ∧
  (∀ i, i < 254 → (breatheDuty (i + 1)).toNat = (breatheDuty i).toNat + 1 ∨
    (breatheDuty (i + 1)).toNat + 1 = (breatheDuty i).toNat)

/-- One render of mode 2 of the demo variant is one whole sweep: 255 steps of `B` ticks each on one channel, each step's duty in
the registers for exactly its `B` ticks, then `POLL` with the next channel's index. -/
def Obligations.BreatheSweepLasts255Steps : Prop :=
  ∀ s : State, s.ph = .render → s.muxIn = none → s.params.variant = .demo → s.mode = 2 → s.params.Valid →
    NoReset s (1 + 255 * s.params.breatheTicks) →
    (∀ j, j < 255 * s.params.breatheTicks → ∃ u, After (1 + j) s u ∧ u.ph = .brtStep ∧ u.animCh = s.animCh ∧
      u.animPos.toNat = j / s.params.breatheTicks ∧ ShowsSweep u s.animCh.toNat (j / s.params.breatheTicks)) ∧
    (∃ u, After (1 + 255 * s.params.breatheTicks) s u ∧ u.ph = .poll ∧ u.mode = 2 ∧ u.animPos = 0 ∧
      u.animCh.toNat = (s.animCh.toNat + 1) % 4)

/-! ## The multiplexer -/

/-- The `SETCH` commands, each selected by its selector field: `ALL` and an unrecognized selector write the duty to all four
channels, `CHk` to its one channel with 0 on the three others; nothing else changes. -/
def Obligations.SetchCommandResults : Prop :=
  ∀ (d : Duty) (s : State),
    (Selects (.s (0b000#3 ++ d)) (.setchAll d) ∧ Selects (.s (0b001#3 ++ d)) (.setchCh1 d) ∧
      Selects (.s (0b010#3 ++ d)) (.setchCh2 d) ∧ Selects (.s (0b011#3 ++ d)) (.setchCh3 d) ∧
      Selects (.s (0b100#3 ++ d)) (.setchCh4 d) ∧
      ∀ sel : Selector, 5 ≤ sel.toNat → Selects (.s (sel ++ d)) (.setchUnrec sel d)) ∧
    exec (.setchAll d) s = .next { s with duty1 := d, duty2 := d, duty3 := d, duty4 := d } ∧
    exec (.setchCh1 d) s = .next { s with duty1 := d, duty2 := 0, duty3 := 0, duty4 := 0 } ∧
    exec (.setchCh2 d) s = .next { s with duty1 := 0, duty2 := d, duty3 := 0, duty4 := 0 } ∧
    exec (.setchCh3 d) s = .next { s with duty1 := 0, duty2 := 0, duty3 := d, duty4 := 0 } ∧
    exec (.setchCh4 d) s = .next { s with duty1 := 0, duty2 := 0, duty3 := 0, duty4 := d } ∧
    (∀ sel : Selector, 5 ≤ sel.toNat →
      exec (.setchUnrec sel d) s = .next { s with duty1 := d, duty2 := d, duty3 := d, duty4 := d })

/-- `SETTAB`, the word `{t4, t3, t2, t1}`, writes its four duties, each to its channel; nothing else changes. -/
def Obligations.SettabCommandResult : Prop :=
  ∀ (t1 t2 t3 t4 : Duty) (s : State),
    Selects (.t (t4 ++ t3 ++ t2 ++ t1)) (.settab t1 t2 t3 t4) ∧
    exec (.settab t1 t2 t3 t4) s = .next { s with duty1 := t1, duty2 := t2, duty3 := t3, duty4 := t4 }

/-- The round trip over command words: after the command of any format `S` word the addressed channels read back its duty field
and the others 0; after that of any format `T` word channel `k` reads back field `tk`. The state before has no influence. -/
def Obligations.CommandWordsReadBack : Prop :=
  ∀ (v : Variant) (s : State),
    (∀ w : BitVec 19, ∃ i t, decode v (.s w) = .ok i ∧ exec i s = .next t ∧
      ((w.toNat / 2 ^ 16 = 0 ∨ 5 ≤ w.toNat / 2 ^ 16) →
        Duties t (w.toNat % 2 ^ 16) (w.toNat % 2 ^ 16) (w.toNat % 2 ^ 16) (w.toNat % 2 ^ 16)) ∧
      ((1 ≤ w.toNat / 2 ^ 16 ∧ w.toNat / 2 ^ 16 ≤ 4) →
        Duties t (if w.toNat / 2 ^ 16 = 1 then w.toNat % 2 ^ 16 else 0) (if w.toNat / 2 ^ 16 = 2 then w.toNat % 2 ^ 16 else 0)
          (if w.toNat / 2 ^ 16 = 3 then w.toNat % 2 ^ 16 else 0) (if w.toNat / 2 ^ 16 = 4 then w.toNat % 2 ^ 16 else 0))) ∧
    (∀ w : BitVec 64, ∃ i t, decode v (.t w) = .ok i ∧ exec i s = .next t ∧
      Duties t (w.toNat % 2 ^ 16) (w.toNat / 2 ^ 16 % 2 ^ 16) (w.toNat / 2 ^ 32 % 2 ^ 16) (w.toNat / 2 ^ 48 % 2 ^ 16))

/-- At a tick with no command, every phase but `RENDER` and `BRT_STEP` and the ticks of `BRT_STEP` that count or end the sweep,
the four duty registers hold. -/
def Obligations.DutiesHoldWithoutACommand : Prop :=
  ∀ s t : State, s.input.rstN = true → s.muxIn = none → step s = .next t →
    (s.ph ≠ .render ∧ s.ph ≠ .brtStep ∨ s.ph = .brtStep ∧ (s.dly ≠ 0 ∨ s.animPos = 254)) → SameDuties s t

/-! ## Rules of the whole machine -/

/-- `MODE < N` is kept by every step, and under it the render step never selects `RECOVER`. -/
def Obligations.ModeStaysInRange : Prop :=
  (∀ s t : State, ModeInRange s → step s = .next t → ModeInRange t) ∧
  (∀ s : State, ModeInRange s → decodeRender s.params.variant s.mode ≠ .recover)

/-- Past boot, every step that does not reset keeps: `MODE` is 0 only while a wrapping press is stored and rendered; so mode 0
is never observed at a poll after the first render. -/
def Obligations.RestingModeStaysNonzero : Prop :=
  ∀ s t : State, s.input.rstN = true → RestingModeNonzero s → step s = .next t → RestingModeNonzero t

/-- Every step keeps: outside boot and `PERSIST`, the mode a reboot would load is `MODE`, or it is 0 and `MODE` is 1. -/
def Obligations.RebootModeAgreesInvariant : Prop :=
  ∀ s t : State, ModeInRange s → RebootAgrees s → step s = .next t → RebootAgrees t

/-- Every step keeps `DLY` below the length of the delay in progress, and 0 outside the four delay phases. -/
def Obligations.DelayCounterStaysInRange : Prop :=
  ∀ s t : State, s.params.Valid → DelayInRange s → step s = .next t → DelayInRange t

/-- Every step of a panel machine keeps it out of the animation phases and its cursor at 0. -/
def Obligations.PanelVariantNeverAnimates : Prop :=
  ∀ s t : State, PanelStill s → step s = .next t → PanelStill t

/-- Every step of the assembled block keeps the four duty registers at 4095 or below. -/
def Obligations.GeneratedDutiesStayLogical : Prop :=
  ∀ s t : State, DutiesLogical s → step s = .next t → DutiesLogical t

/-- Every step of the assembled block keeps: during a sweep the duty registers show the step that the cursor names, on the one
channel it names. -/
def Obligations.SweepStaysOnTheLights : Prop :=
  ∀ s t : State, SweepShown s → step s = .next t → SweepShown t

/-- Every step keeps the storage in its canonical form, which is the model's own choice (log 4). -/
def Obligations.StoreStaysCanonical : Prop :=
  ∀ s t : State, s.mem.wf → step s = .next t → t.mem.wf

/-- Seven of the invariants hold in the state after reset: the mode in range, the reboot mode, the delay counter, the still
panel, the logical duties, the sweep shown, and canonical storage. `RestingModeNonzero` is not among them: it is about the ticks
past boot and is false at reset. The empty command input in two of them and the canonical form of the storage are the model's
own choice (logs 8 and 4). -/
def Obligations.InvariantsHoldAfterReset : Prop :=
  ModeInRange State.reset ∧ RebootAgrees State.reset ∧ DelayInRange State.reset ∧ PanelStill State.reset ∧
  DutiesLogical State.reset ∧ SweepShown State.reset ∧ State.reset.mem.wf

/-! ## Behaviour over several ticks -/

/-- Mode 0 is transient: the tick that renders it leaves all four duties 0 and `MODE = 1`, and if the next poll reads released,
the render after it, two ticks later, performs the operation of mode 1, the outputs being off until then. -/
def Obligations.ModeZeroIsTransient : Prop :=
  ∀ s : State, s.ph = .render → s.mode = 0 → s.muxIn = none → NoReset s 2 → s.levelAt 1 = true →
    (∃ u, After 1 s u ∧ u.ph = .poll ∧ u.mode = 1 ∧ Duties u 0 0 0 0) ∧
    (∃ u, After 2 s u ∧ u.ph = .render ∧ u.mode = 1 ∧ Duties u 0 0 0 0 ∧
      decodeRender u.params.variant u.mode = (match u.params.variant with | .panel => .static1 | .demo => .flicker))

/-- Out-of-range recovery: with a byte out of range at boot, and the button released, the first iteration renders mode 0 and
the second mode 1, and the byte stays as it was. -/
def Obligations.OutOfRangeByteRendersAsModeZero : Prop :=
  ∀ s : State, s.ph = .bootLoad → s.muxIn = none → s.params.variant.modeCount ≤ s.nv.toNat → NoReset s 4 →
    s.levelAt 1 = true → s.levelAt 3 = true →
    (∃ u, After 2 s u ∧ u.ph = .render ∧ u.mode = 0) ∧
    (∃ u, After 3 s u ∧ u.ph = .poll ∧ u.mode = 1 ∧ Duties u 0 0 0 0) ∧
    (∃ u, After 4 s u ∧ u.ph = .render ∧ u.mode = 1 ∧ Duties u 0 0 0 0 ∧ u.nv = s.nv)

/-- A confirmed press from resting mode `m`, the store answering after `w` ticks of waiting, persists `(m + 1) mod N` and leads
to the next resting mode, `m mod (N - 1) + 1`, once the render has run. -/
def Obligations.PressMovesToNextRestingMode : Prop :=
  ∀ (s : State) (w : Nat), s.ph = .advance → s.muxIn = none → s.mode ≠ 0 → ModeInRange s → NoReset s (w + 3) →
    (∀ j, 1 ≤ j → j ≤ w → (s.inputAt j).nvDone = false) → (s.inputAt (w + 1)).nvDone = true →
    ∃ u, After (w + 3) s u ∧ u.ph ≠ .render ∧
      u.mode.toNat = s.mode.toNat % (s.params.variant.modeCount - 1) + 1 ∧
      u.nv.toNat = (s.mode.toNat + 1) % s.params.variant.modeCount

/-- What was stored survives: a mode stored by `PERSIST` at one tick, then a reset, then a boot whose bring-up answers at once,
is the mode at the first poll, every register having been reset in between. -/
def Obligations.StoredModeSurvivesReset : Prop :=
  ∀ s : State, s.ph = .persist → s.muxIn = none → ModeInRange s →
    (s.inputAt 0).rstN = true → (s.inputAt 0).nvDone = true → (s.inputAt 1).rstN = false →
    (∀ j, 2 ≤ j → j ≤ 4 → (s.inputAt j).rstN = true) → (s.inputAt 2).initDone = true →
    ∃ u, After 5 s u ∧ u.ph = .poll ∧ u.mode = s.mode ∧ u.nv = s.mode ∧ Duties u 0 0 0 0
end

