-- ==== Sys2Proof/Laws/Decode.lean ====
section
/-! SUPPORT. The fields of a packed command word, which bytes select the render operations that write `MODE` or start a
delay. -/

namespace Sys2Proof

/-- The selector of a packed format `S` word. -/
theorem selOf_pack (c : Selector) (d : Duty) : selOf (c ++ d) = c := by
  unfold selOf
  apply BitVec.eq_of_getLsbD_eq
  intro i hi
  simp
  grind

/-- The duty of a packed format `S` word. -/
theorem dutyOf_pack (c : Selector) (d : Duty) : dutyOf (c ++ d) = d := by
  unfold dutyOf
  apply BitVec.eq_of_getLsbD_eq
  intro i hi
  simp
  grind

theorem decodeRender_eq_off (v : Variant) (m : Byte) : decodeRender v m = .off ↔ m = 0 := by
  revert m
  cases v <;> decide

theorem decodeRender_eq_recover (v : Variant) (m : Byte) : decodeRender v m = .recover ↔ v.modeCount ≤ m.toNat := by
  revert m
  cases v <;> decide

theorem decodeRender_eq_flicker (v : Variant) (m : Byte) : decodeRender v m = .flicker ↔ v = .demo ∧ m = 1 := by
  revert m
  cases v <;> decide

theorem decodeRender_eq_breathe (v : Variant) (m : Byte) : decodeRender v m = .breathe ↔ v = .demo ∧ m = 2 := by
  revert m
  cases v <;> decide

/-- The operation a mode byte selects is a render operation, neither `RENDER` itself nor the store. -/
theorem RenderOp.instr_ne (r : RenderOp) (m : Byte) : r.instr m ≠ .render ∧ r.instr m ≠ .persist := by
  cases r <;> simp [RenderOp.instr]

end Sys2Proof
end

