-- ==== Sys2Proof/Laws/State.lean ====
section
/-! SUPPORT. One lemma per field per update of the state, so that no proof unfolds a record update. -/

namespace Sys2Proof.Machine

/-! ## `PH <- p` -/

@[simp] theorem State.goto_sync0 (p : Phase) (s : State) : (s.goto p).sync0 = s.sync0 := rfl
@[simp] theorem State.goto_sync1 (p : Phase) (s : State) : (s.goto p).sync1 = s.sync1 := rfl
@[simp] theorem State.goto_ph (p : Phase) (s : State) : (s.goto p).ph = p := rfl
@[simp] theorem State.goto_dly (p : Phase) (s : State) : (s.goto p).dly = s.dly := rfl
@[simp] theorem State.goto_mode (p : Phase) (s : State) : (s.goto p).mode = s.mode := rfl
@[simp] theorem State.goto_duty1 (p : Phase) (s : State) : (s.goto p).duty1 = s.duty1 := rfl
@[simp] theorem State.goto_duty2 (p : Phase) (s : State) : (s.goto p).duty2 = s.duty2 := rfl
@[simp] theorem State.goto_duty3 (p : Phase) (s : State) : (s.goto p).duty3 = s.duty3 := rfl
@[simp] theorem State.goto_duty4 (p : Phase) (s : State) : (s.goto p).duty4 = s.duty4 := rfl
@[simp] theorem State.goto_animCh (p : Phase) (s : State) : (s.goto p).animCh = s.animCh := rfl
@[simp] theorem State.goto_animPos (p : Phase) (s : State) : (s.goto p).animPos = s.animPos := rfl
@[simp] theorem State.goto_mem (p : Phase) (s : State) : (s.goto p).mem = s.mem := rfl
@[simp] theorem State.goto_params (p : Phase) (s : State) : (s.goto p).params = s.params := rfl
@[simp] theorem State.goto_stimulus (p : Phase) (s : State) : (s.goto p).stimulus = s.stimulus := rfl
@[simp] theorem State.goto_drawn (p : Phase) (s : State) : (s.goto p).drawn = s.drawn := rfl
@[simp] theorem State.goto_muxIn (p : Phase) (s : State) : (s.goto p).muxIn = s.muxIn := rfl
@[simp] theorem State.goto_input (p : Phase) (s : State) : (s.goto p).input = s.input := rfl
@[simp] theorem State.goto_readByte (p : Phase) (s : State) (a : Nat) : (s.goto p).readByte a = s.readByte a := rfl
@[simp] theorem State.goto_nv (p : Phase) (s : State) : (s.goto p).nv = s.nv := rfl

/-! ## `DLY <- d` -/

@[simp] theorem State.setDly_sync0 (d : BitVec 32) (s : State) : (s.setDly d).sync0 = s.sync0 := rfl
@[simp] theorem State.setDly_sync1 (d : BitVec 32) (s : State) : (s.setDly d).sync1 = s.sync1 := rfl
@[simp] theorem State.setDly_ph (d : BitVec 32) (s : State) : (s.setDly d).ph = s.ph := rfl
@[simp] theorem State.setDly_dly (d : BitVec 32) (s : State) : (s.setDly d).dly = d := rfl
@[simp] theorem State.setDly_mode (d : BitVec 32) (s : State) : (s.setDly d).mode = s.mode := rfl
@[simp] theorem State.setDly_duty1 (d : BitVec 32) (s : State) : (s.setDly d).duty1 = s.duty1 := rfl
@[simp] theorem State.setDly_duty2 (d : BitVec 32) (s : State) : (s.setDly d).duty2 = s.duty2 := rfl
@[simp] theorem State.setDly_duty3 (d : BitVec 32) (s : State) : (s.setDly d).duty3 = s.duty3 := rfl
@[simp] theorem State.setDly_duty4 (d : BitVec 32) (s : State) : (s.setDly d).duty4 = s.duty4 := rfl
@[simp] theorem State.setDly_animCh (d : BitVec 32) (s : State) : (s.setDly d).animCh = s.animCh := rfl
@[simp] theorem State.setDly_animPos (d : BitVec 32) (s : State) : (s.setDly d).animPos = s.animPos := rfl
@[simp] theorem State.setDly_mem (d : BitVec 32) (s : State) : (s.setDly d).mem = s.mem := rfl
@[simp] theorem State.setDly_params (d : BitVec 32) (s : State) : (s.setDly d).params = s.params := rfl
@[simp] theorem State.setDly_stimulus (d : BitVec 32) (s : State) : (s.setDly d).stimulus = s.stimulus := rfl
@[simp] theorem State.setDly_drawn (d : BitVec 32) (s : State) : (s.setDly d).drawn = s.drawn := rfl
@[simp] theorem State.setDly_muxIn (d : BitVec 32) (s : State) : (s.setDly d).muxIn = s.muxIn := rfl
@[simp] theorem State.setDly_input (d : BitVec 32) (s : State) : (s.setDly d).input = s.input := rfl
@[simp] theorem State.setDly_readByte (d : BitVec 32) (s : State) (a : Nat) : (s.setDly d).readByte a = s.readByte a := rfl
@[simp] theorem State.setDly_nv (d : BitVec 32) (s : State) : (s.setDly d).nv = s.nv := rfl

/-! ## Entering a delay -/

@[simp] theorem State.loadDelay_sync0 (k : Nat) (s : State) : (s.loadDelay k).sync0 = s.sync0 := rfl
@[simp] theorem State.loadDelay_sync1 (k : Nat) (s : State) : (s.loadDelay k).sync1 = s.sync1 := rfl
@[simp] theorem State.loadDelay_ph (k : Nat) (s : State) : (s.loadDelay k).ph = s.ph := rfl
@[simp] theorem State.loadDelay_dly (k : Nat) (s : State) : (s.loadDelay k).dly = BitVec.ofNat 32 (k - 1) := rfl
@[simp] theorem State.loadDelay_mode (k : Nat) (s : State) : (s.loadDelay k).mode = s.mode := rfl
@[simp] theorem State.loadDelay_duty1 (k : Nat) (s : State) : (s.loadDelay k).duty1 = s.duty1 := rfl
@[simp] theorem State.loadDelay_duty2 (k : Nat) (s : State) : (s.loadDelay k).duty2 = s.duty2 := rfl
@[simp] theorem State.loadDelay_duty3 (k : Nat) (s : State) : (s.loadDelay k).duty3 = s.duty3 := rfl
@[simp] theorem State.loadDelay_duty4 (k : Nat) (s : State) : (s.loadDelay k).duty4 = s.duty4 := rfl
@[simp] theorem State.loadDelay_animCh (k : Nat) (s : State) : (s.loadDelay k).animCh = s.animCh := rfl
@[simp] theorem State.loadDelay_animPos (k : Nat) (s : State) : (s.loadDelay k).animPos = s.animPos := rfl
@[simp] theorem State.loadDelay_mem (k : Nat) (s : State) : (s.loadDelay k).mem = s.mem := rfl
@[simp] theorem State.loadDelay_params (k : Nat) (s : State) : (s.loadDelay k).params = s.params := rfl
@[simp] theorem State.loadDelay_stimulus (k : Nat) (s : State) : (s.loadDelay k).stimulus = s.stimulus := rfl
@[simp] theorem State.loadDelay_drawn (k : Nat) (s : State) : (s.loadDelay k).drawn = s.drawn := rfl
@[simp] theorem State.loadDelay_muxIn (k : Nat) (s : State) : (s.loadDelay k).muxIn = s.muxIn := rfl
@[simp] theorem State.loadDelay_input (k : Nat) (s : State) : (s.loadDelay k).input = s.input := rfl
@[simp] theorem State.loadDelay_readByte (k : Nat) (s : State) (a : Nat) : (s.loadDelay k).readByte a = s.readByte a := rfl
@[simp] theorem State.loadDelay_nv (k : Nat) (s : State) : (s.loadDelay k).nv = s.nv := rfl

/-! ## Writing the cursor -/

@[simp] theorem State.setCursor_sync0 (c : BitVec 2) (p : Byte) (s : State) : (s.setCursor c p).sync0 = s.sync0 := rfl
@[simp] theorem State.setCursor_sync1 (c : BitVec 2) (p : Byte) (s : State) : (s.setCursor c p).sync1 = s.sync1 := rfl
@[simp] theorem State.setCursor_ph (c : BitVec 2) (p : Byte) (s : State) : (s.setCursor c p).ph = s.ph := rfl
@[simp] theorem State.setCursor_dly (c : BitVec 2) (p : Byte) (s : State) : (s.setCursor c p).dly = s.dly := rfl
@[simp] theorem State.setCursor_mode (c : BitVec 2) (p : Byte) (s : State) : (s.setCursor c p).mode = s.mode := rfl
@[simp] theorem State.setCursor_duty1 (c : BitVec 2) (p : Byte) (s : State) : (s.setCursor c p).duty1 = s.duty1 := rfl
@[simp] theorem State.setCursor_duty2 (c : BitVec 2) (p : Byte) (s : State) : (s.setCursor c p).duty2 = s.duty2 := rfl
@[simp] theorem State.setCursor_duty3 (c : BitVec 2) (p : Byte) (s : State) : (s.setCursor c p).duty3 = s.duty3 := rfl
@[simp] theorem State.setCursor_duty4 (c : BitVec 2) (p : Byte) (s : State) : (s.setCursor c p).duty4 = s.duty4 := rfl
@[simp] theorem State.setCursor_animCh (c : BitVec 2) (p : Byte) (s : State) : (s.setCursor c p).animCh = c := rfl
@[simp] theorem State.setCursor_animPos (c : BitVec 2) (p : Byte) (s : State) : (s.setCursor c p).animPos = p := rfl
@[simp] theorem State.setCursor_mem (c : BitVec 2) (p : Byte) (s : State) : (s.setCursor c p).mem = s.mem := rfl
@[simp] theorem State.setCursor_params (c : BitVec 2) (p : Byte) (s : State) : (s.setCursor c p).params = s.params := rfl
@[simp] theorem State.setCursor_stimulus (c : BitVec 2) (p : Byte) (s : State) : (s.setCursor c p).stimulus = s.stimulus := rfl
@[simp] theorem State.setCursor_drawn (c : BitVec 2) (p : Byte) (s : State) : (s.setCursor c p).drawn = s.drawn := rfl
@[simp] theorem State.setCursor_muxIn (c : BitVec 2) (p : Byte) (s : State) : (s.setCursor c p).muxIn = s.muxIn := rfl
@[simp] theorem State.setCursor_input (c : BitVec 2) (p : Byte) (s : State) : (s.setCursor c p).input = s.input := rfl
@[simp] theorem State.setCursor_readByte (c : BitVec 2) (p : Byte) (s : State) (a : Nat) : (s.setCursor c p).readByte a = s.readByte a := rfl
@[simp] theorem State.setCursor_nv (c : BitVec 2) (p : Byte) (s : State) : (s.setCursor c p).nv = s.nv := rfl

/-! ## Writing `MODE` -/

@[simp] theorem State.enterMode_sync0 (m : Byte) (s : State) : (s.enterMode m).sync0 = s.sync0 := rfl
@[simp] theorem State.enterMode_sync1 (m : Byte) (s : State) : (s.enterMode m).sync1 = s.sync1 := rfl
@[simp] theorem State.enterMode_ph (m : Byte) (s : State) : (s.enterMode m).ph = s.ph := rfl
@[simp] theorem State.enterMode_dly (m : Byte) (s : State) : (s.enterMode m).dly = s.dly := rfl
@[simp] theorem State.enterMode_mode (m : Byte) (s : State) : (s.enterMode m).mode = m := rfl
@[simp] theorem State.enterMode_duty1 (m : Byte) (s : State) : (s.enterMode m).duty1 = s.duty1 := rfl
@[simp] theorem State.enterMode_duty2 (m : Byte) (s : State) : (s.enterMode m).duty2 = s.duty2 := rfl
@[simp] theorem State.enterMode_duty3 (m : Byte) (s : State) : (s.enterMode m).duty3 = s.duty3 := rfl
@[simp] theorem State.enterMode_duty4 (m : Byte) (s : State) : (s.enterMode m).duty4 = s.duty4 := rfl
@[simp] theorem State.enterMode_animCh (m : Byte) (s : State) : (s.enterMode m).animCh = 0 := rfl
@[simp] theorem State.enterMode_animPos (m : Byte) (s : State) : (s.enterMode m).animPos = 0 := rfl
@[simp] theorem State.enterMode_mem (m : Byte) (s : State) : (s.enterMode m).mem = s.mem := rfl
@[simp] theorem State.enterMode_params (m : Byte) (s : State) : (s.enterMode m).params = s.params := rfl
@[simp] theorem State.enterMode_stimulus (m : Byte) (s : State) : (s.enterMode m).stimulus = s.stimulus := rfl
@[simp] theorem State.enterMode_drawn (m : Byte) (s : State) : (s.enterMode m).drawn = s.drawn := rfl
@[simp] theorem State.enterMode_muxIn (m : Byte) (s : State) : (s.enterMode m).muxIn = s.muxIn := rfl
@[simp] theorem State.enterMode_input (m : Byte) (s : State) : (s.enterMode m).input = s.input := rfl
@[simp] theorem State.enterMode_readByte (m : Byte) (s : State) (a : Nat) : (s.enterMode m).readByte a = s.readByte a := rfl
@[simp] theorem State.enterMode_nv (m : Byte) (s : State) : (s.enterMode m).nv = s.nv := rfl

/-! ## Writing the duty registers -/

@[simp] theorem State.setDuties_sync0 (d1 d2 d3 d4 : Duty) (s : State) : (s.setDuties d1 d2 d3 d4).sync0 = s.sync0 := rfl
@[simp] theorem State.setDuties_sync1 (d1 d2 d3 d4 : Duty) (s : State) : (s.setDuties d1 d2 d3 d4).sync1 = s.sync1 := rfl
@[simp] theorem State.setDuties_ph (d1 d2 d3 d4 : Duty) (s : State) : (s.setDuties d1 d2 d3 d4).ph = s.ph := rfl
@[simp] theorem State.setDuties_dly (d1 d2 d3 d4 : Duty) (s : State) : (s.setDuties d1 d2 d3 d4).dly = s.dly := rfl
@[simp] theorem State.setDuties_mode (d1 d2 d3 d4 : Duty) (s : State) : (s.setDuties d1 d2 d3 d4).mode = s.mode := rfl
@[simp] theorem State.setDuties_duty1 (d1 d2 d3 d4 : Duty) (s : State) : (s.setDuties d1 d2 d3 d4).duty1 = d1 := rfl
@[simp] theorem State.setDuties_duty2 (d1 d2 d3 d4 : Duty) (s : State) : (s.setDuties d1 d2 d3 d4).duty2 = d2 := rfl
@[simp] theorem State.setDuties_duty3 (d1 d2 d3 d4 : Duty) (s : State) : (s.setDuties d1 d2 d3 d4).duty3 = d3 := rfl
@[simp] theorem State.setDuties_duty4 (d1 d2 d3 d4 : Duty) (s : State) : (s.setDuties d1 d2 d3 d4).duty4 = d4 := rfl
@[simp] theorem State.setDuties_animCh (d1 d2 d3 d4 : Duty) (s : State) : (s.setDuties d1 d2 d3 d4).animCh = s.animCh := rfl
@[simp] theorem State.setDuties_animPos (d1 d2 d3 d4 : Duty) (s : State) : (s.setDuties d1 d2 d3 d4).animPos = s.animPos := rfl
@[simp] theorem State.setDuties_mem (d1 d2 d3 d4 : Duty) (s : State) : (s.setDuties d1 d2 d3 d4).mem = s.mem := rfl
@[simp] theorem State.setDuties_params (d1 d2 d3 d4 : Duty) (s : State) : (s.setDuties d1 d2 d3 d4).params = s.params := rfl
@[simp] theorem State.setDuties_stimulus (d1 d2 d3 d4 : Duty) (s : State) : (s.setDuties d1 d2 d3 d4).stimulus = s.stimulus := rfl
@[simp] theorem State.setDuties_drawn (d1 d2 d3 d4 : Duty) (s : State) : (s.setDuties d1 d2 d3 d4).drawn = s.drawn := rfl
@[simp] theorem State.setDuties_muxIn (d1 d2 d3 d4 : Duty) (s : State) : (s.setDuties d1 d2 d3 d4).muxIn = s.muxIn := rfl
@[simp] theorem State.setDuties_input (d1 d2 d3 d4 : Duty) (s : State) : (s.setDuties d1 d2 d3 d4).input = s.input := rfl
@[simp] theorem State.setDuties_readByte (d1 d2 d3 d4 : Duty) (s : State) (a : Nat) : (s.setDuties d1 d2 d3 d4).readByte a = s.readByte a := rfl
@[simp] theorem State.setDuties_nv (d1 d2 d3 d4 : Duty) (s : State) : (s.setDuties d1 d2 d3 d4).nv = s.nv := rfl

/-! ## `SETCH` -/

@[simp] theorem State.setch_sync0 (d : Duty) (c : Selector) (s : State) : (s.setch d c).sync0 = s.sync0 := rfl
@[simp] theorem State.setch_sync1 (d : Duty) (c : Selector) (s : State) : (s.setch d c).sync1 = s.sync1 := rfl
@[simp] theorem State.setch_ph (d : Duty) (c : Selector) (s : State) : (s.setch d c).ph = s.ph := rfl
@[simp] theorem State.setch_dly (d : Duty) (c : Selector) (s : State) : (s.setch d c).dly = s.dly := rfl
@[simp] theorem State.setch_mode (d : Duty) (c : Selector) (s : State) : (s.setch d c).mode = s.mode := rfl
@[simp] theorem State.setch_duty1 (d : Duty) (c : Selector) (s : State) : (s.setch d c).duty1 = muxOut d c 1 := rfl
@[simp] theorem State.setch_duty2 (d : Duty) (c : Selector) (s : State) : (s.setch d c).duty2 = muxOut d c 2 := rfl
@[simp] theorem State.setch_duty3 (d : Duty) (c : Selector) (s : State) : (s.setch d c).duty3 = muxOut d c 3 := rfl
@[simp] theorem State.setch_duty4 (d : Duty) (c : Selector) (s : State) : (s.setch d c).duty4 = muxOut d c 4 := rfl
@[simp] theorem State.setch_animCh (d : Duty) (c : Selector) (s : State) : (s.setch d c).animCh = s.animCh := rfl
@[simp] theorem State.setch_animPos (d : Duty) (c : Selector) (s : State) : (s.setch d c).animPos = s.animPos := rfl
@[simp] theorem State.setch_mem (d : Duty) (c : Selector) (s : State) : (s.setch d c).mem = s.mem := rfl
@[simp] theorem State.setch_params (d : Duty) (c : Selector) (s : State) : (s.setch d c).params = s.params := rfl
@[simp] theorem State.setch_stimulus (d : Duty) (c : Selector) (s : State) : (s.setch d c).stimulus = s.stimulus := rfl
@[simp] theorem State.setch_drawn (d : Duty) (c : Selector) (s : State) : (s.setch d c).drawn = s.drawn := rfl
@[simp] theorem State.setch_muxIn (d : Duty) (c : Selector) (s : State) : (s.setch d c).muxIn = s.muxIn := rfl
@[simp] theorem State.setch_input (d : Duty) (c : Selector) (s : State) : (s.setch d c).input = s.input := rfl
@[simp] theorem State.setch_readByte (d : Duty) (c : Selector) (s : State) (a : Nat) : (s.setch d c).readByte a = s.readByte a := rfl
@[simp] theorem State.setch_nv (d : Duty) (c : Selector) (s : State) : (s.setch d c).nv = s.nv := rfl

/-! ## `SETTAB` -/

@[simp] theorem State.settab_sync0 (t1 t2 t3 t4 : Duty) (s : State) : (s.settab t1 t2 t3 t4).sync0 = s.sync0 := rfl
@[simp] theorem State.settab_sync1 (t1 t2 t3 t4 : Duty) (s : State) : (s.settab t1 t2 t3 t4).sync1 = s.sync1 := rfl
@[simp] theorem State.settab_ph (t1 t2 t3 t4 : Duty) (s : State) : (s.settab t1 t2 t3 t4).ph = s.ph := rfl
@[simp] theorem State.settab_dly (t1 t2 t3 t4 : Duty) (s : State) : (s.settab t1 t2 t3 t4).dly = s.dly := rfl
@[simp] theorem State.settab_mode (t1 t2 t3 t4 : Duty) (s : State) : (s.settab t1 t2 t3 t4).mode = s.mode := rfl
@[simp] theorem State.settab_duty1 (t1 t2 t3 t4 : Duty) (s : State) : (s.settab t1 t2 t3 t4).duty1 = t1 := rfl
@[simp] theorem State.settab_duty2 (t1 t2 t3 t4 : Duty) (s : State) : (s.settab t1 t2 t3 t4).duty2 = t2 := rfl
@[simp] theorem State.settab_duty3 (t1 t2 t3 t4 : Duty) (s : State) : (s.settab t1 t2 t3 t4).duty3 = t3 := rfl
@[simp] theorem State.settab_duty4 (t1 t2 t3 t4 : Duty) (s : State) : (s.settab t1 t2 t3 t4).duty4 = t4 := rfl
@[simp] theorem State.settab_animCh (t1 t2 t3 t4 : Duty) (s : State) : (s.settab t1 t2 t3 t4).animCh = s.animCh := rfl
@[simp] theorem State.settab_animPos (t1 t2 t3 t4 : Duty) (s : State) : (s.settab t1 t2 t3 t4).animPos = s.animPos := rfl
@[simp] theorem State.settab_mem (t1 t2 t3 t4 : Duty) (s : State) : (s.settab t1 t2 t3 t4).mem = s.mem := rfl
@[simp] theorem State.settab_params (t1 t2 t3 t4 : Duty) (s : State) : (s.settab t1 t2 t3 t4).params = s.params := rfl
@[simp] theorem State.settab_stimulus (t1 t2 t3 t4 : Duty) (s : State) : (s.settab t1 t2 t3 t4).stimulus = s.stimulus := rfl
@[simp] theorem State.settab_drawn (t1 t2 t3 t4 : Duty) (s : State) : (s.settab t1 t2 t3 t4).drawn = s.drawn := rfl
@[simp] theorem State.settab_muxIn (t1 t2 t3 t4 : Duty) (s : State) : (s.settab t1 t2 t3 t4).muxIn = s.muxIn := rfl
@[simp] theorem State.settab_input (t1 t2 t3 t4 : Duty) (s : State) : (s.settab t1 t2 t3 t4).input = s.input := rfl
@[simp] theorem State.settab_readByte (t1 t2 t3 t4 : Duty) (s : State) (a : Nat) : (s.settab t1 t2 t3 t4).readByte a = s.readByte a := rfl
@[simp] theorem State.settab_nv (t1 t2 t3 t4 : Duty) (s : State) : (s.settab t1 t2 t3 t4).nv = s.nv := rfl

/-! ## A completed write of `NV` -/

@[simp] theorem State.nvWrite_sync0 (v : Byte) (s : State) : (s.nvWrite v).sync0 = s.sync0 := rfl
@[simp] theorem State.nvWrite_sync1 (v : Byte) (s : State) : (s.nvWrite v).sync1 = s.sync1 := rfl
@[simp] theorem State.nvWrite_ph (v : Byte) (s : State) : (s.nvWrite v).ph = s.ph := rfl
@[simp] theorem State.nvWrite_dly (v : Byte) (s : State) : (s.nvWrite v).dly = s.dly := rfl
@[simp] theorem State.nvWrite_mode (v : Byte) (s : State) : (s.nvWrite v).mode = s.mode := rfl
@[simp] theorem State.nvWrite_duty1 (v : Byte) (s : State) : (s.nvWrite v).duty1 = s.duty1 := rfl
@[simp] theorem State.nvWrite_duty2 (v : Byte) (s : State) : (s.nvWrite v).duty2 = s.duty2 := rfl
@[simp] theorem State.nvWrite_duty3 (v : Byte) (s : State) : (s.nvWrite v).duty3 = s.duty3 := rfl
@[simp] theorem State.nvWrite_duty4 (v : Byte) (s : State) : (s.nvWrite v).duty4 = s.duty4 := rfl
@[simp] theorem State.nvWrite_animCh (v : Byte) (s : State) : (s.nvWrite v).animCh = s.animCh := rfl
@[simp] theorem State.nvWrite_animPos (v : Byte) (s : State) : (s.nvWrite v).animPos = s.animPos := rfl
@[simp] theorem State.nvWrite_mem (v : Byte) (s : State) : (s.nvWrite v).mem = s.mem.write s.params.nvAddr v := rfl
@[simp] theorem State.nvWrite_params (v : Byte) (s : State) : (s.nvWrite v).params = s.params := rfl
@[simp] theorem State.nvWrite_stimulus (v : Byte) (s : State) : (s.nvWrite v).stimulus = s.stimulus := rfl
@[simp] theorem State.nvWrite_drawn (v : Byte) (s : State) : (s.nvWrite v).drawn = s.drawn := rfl
@[simp] theorem State.nvWrite_muxIn (v : Byte) (s : State) : (s.nvWrite v).muxIn = s.muxIn := rfl
@[simp] theorem State.nvWrite_input (v : Byte) (s : State) : (s.nvWrite v).input = s.input := rfl

/-! ## The end of a tick -/

@[simp] theorem State.endTick_sync0 (s t : State) : (s.endTick t).sync0 = s.input.btnN := rfl
@[simp] theorem State.endTick_sync1 (s t : State) : (s.endTick t).sync1 = s.sync0 := rfl
@[simp] theorem State.endTick_ph (s t : State) : (s.endTick t).ph = t.ph := rfl
@[simp] theorem State.endTick_dly (s t : State) : (s.endTick t).dly = t.dly := rfl
@[simp] theorem State.endTick_mode (s t : State) : (s.endTick t).mode = t.mode := rfl
@[simp] theorem State.endTick_duty1 (s t : State) : (s.endTick t).duty1 = t.duty1 := rfl
@[simp] theorem State.endTick_duty2 (s t : State) : (s.endTick t).duty2 = t.duty2 := rfl
@[simp] theorem State.endTick_duty3 (s t : State) : (s.endTick t).duty3 = t.duty3 := rfl
@[simp] theorem State.endTick_duty4 (s t : State) : (s.endTick t).duty4 = t.duty4 := rfl
@[simp] theorem State.endTick_animCh (s t : State) : (s.endTick t).animCh = t.animCh := rfl
@[simp] theorem State.endTick_animPos (s t : State) : (s.endTick t).animPos = t.animPos := rfl
@[simp] theorem State.endTick_mem (s t : State) : (s.endTick t).mem = t.mem := rfl
@[simp] theorem State.endTick_params (s t : State) : (s.endTick t).params = t.params := rfl
@[simp] theorem State.endTick_stimulus (s t : State) : (s.endTick t).stimulus = s.stimulus.tail := rfl
@[simp] theorem State.endTick_drawn (s t : State) : (s.endTick t).drawn = s.drawn + 1 := rfl
@[simp] theorem State.endTick_muxIn (s t : State) : (s.endTick t).muxIn = none := rfl
@[simp] theorem State.endTick_readByte (s t : State) (a : Nat) : (s.endTick t).readByte a = t.readByte a := rfl
@[simp] theorem State.endTick_nv (s t : State) : (s.endTick t).nv = t.nv := rfl

/-! ## A tick in reset -/

@[simp] theorem State.resetTick_sync0 (s : State) : s.resetTick.sync0 = true := rfl
@[simp] theorem State.resetTick_sync1 (s : State) : s.resetTick.sync1 = true := rfl
@[simp] theorem State.resetTick_ph (s : State) : s.resetTick.ph = .bootInit := rfl
@[simp] theorem State.resetTick_dly (s : State) : s.resetTick.dly = 0 := rfl
@[simp] theorem State.resetTick_mode (s : State) : s.resetTick.mode = 0 := rfl
@[simp] theorem State.resetTick_duty1 (s : State) : s.resetTick.duty1 = 0 := rfl
@[simp] theorem State.resetTick_duty2 (s : State) : s.resetTick.duty2 = 0 := rfl
@[simp] theorem State.resetTick_duty3 (s : State) : s.resetTick.duty3 = 0 := rfl
@[simp] theorem State.resetTick_duty4 (s : State) : s.resetTick.duty4 = 0 := rfl
@[simp] theorem State.resetTick_animCh (s : State) : s.resetTick.animCh = 0 := rfl
@[simp] theorem State.resetTick_animPos (s : State) : s.resetTick.animPos = 0 := rfl
@[simp] theorem State.resetTick_mem (s : State) : s.resetTick.mem = s.memAfterReset := rfl
@[simp] theorem State.resetTick_params (s : State) : s.resetTick.params = s.params := rfl
@[simp] theorem State.resetTick_stimulus (s : State) : s.resetTick.stimulus = s.stimulus.tail := rfl
@[simp] theorem State.resetTick_drawn (s : State) : s.resetTick.drawn = s.drawn + 1 := rfl
@[simp] theorem State.resetTick_muxIn (s : State) : s.resetTick.muxIn = none := rfl

end Sys2Proof.Machine
end

