-- ==== Sys2Proof/Laws/Memory.lean ====
section
/-! SUPPORT. The persistent storage: read after write, every other address untouched, the canonical form kept. -/

namespace Sys2Proof.Machine

@[simp] theorem Memory.read_nil (a : Nat) : Memory.read [] a = none := rfl

theorem Memory.read_write_same (m : Memory) (a : Nat) (v : Byte) : Memory.read (Memory.write m a v) a = some v := by
  induction m with
  | nil => simp [Memory.write, Memory.read]
  | cons c m ih =>
    obtain ⟨b, u⟩ := c
    simp only [Memory.write]
    split
    · simp [Memory.read]
    · split
      · simp [Memory.read]
      · simp [Memory.read, ih, show b ≠ a by omega]

theorem Memory.read_write_other (m : Memory) (v : Byte) {a b : Nat} (h : b ≠ a) :
    Memory.read (Memory.write m a v) b = Memory.read m b := by
  induction m with
  | nil => simp [Memory.write, Memory.read, h.symm]
  | cons c m ih =>
    obtain ⟨d, u⟩ := c
    simp only [Memory.write]
    split
    · simp [Memory.read, h.symm]
    · split
      · rename_i he
        subst he
        simp [Memory.read, h.symm]
      · simp [Memory.read, ih]

/-- An entry of a memory after a write is the entry written or one that was there. -/
theorem Memory.mem_write {m : Memory} {a : Nat} {v : Byte} {c : Host.Cell} (h : c ∈ Memory.write m a v) :
    c = (a, v) ∨ c ∈ m := by
  induction m with
  | nil => simpa [Memory.write] using h
  | cons d m ih =>
    obtain ⟨b, u⟩ := d
    simp only [Memory.write] at h
    split at h
    · simpa using h
    · split at h
      · rcases List.mem_cons.1 h with h | h
        · exact .inl h
        · exact .inr (List.mem_cons_of_mem _ h)
      · rcases List.mem_cons.1 h with h | h
        · exact .inr (by simp [h])
        · exact (ih h).imp_right (List.mem_cons_of_mem _)

/-- The one operation that changes memory keeps its canonical form. -/
theorem Memory.write_wf {m : Memory} (h : m.wf) (a : Nat) (v : Byte) : (Memory.write m a v).wf := by
  induction m with
  | nil => simp [Memory.write, Memory.wf]
  | cons c m ih =>
    obtain ⟨b, u⟩ := c
    obtain ⟨hb, hm⟩ := List.pairwise_cons.1 h
    simp only [Memory.write]
    split
    · rename_i hab
      refine List.pairwise_cons.2 ⟨fun c hc => ?_, h⟩
      rcases List.mem_cons.1 hc with rfl | hc
      · exact hab
      · exact Nat.lt_trans hab (hb c hc)
    · split
      · rename_i he
        subst he
        exact List.pairwise_cons.2 ⟨hb, hm⟩
      · refine List.pairwise_cons.2 ⟨fun c hc => ?_, ih hm⟩
        rcases Memory.mem_write hc with rfl | hc
        · show b < a
          omega
        · exact hb c hc

@[simp] theorem State.nvWrite_nv (v : Byte) (s : State) : (s.nvWrite v).nv = v := by
  simp [State.nv, State.readByte, Memory.read_write_same]

theorem State.nvWrite_readByte_other (v : Byte) (s : State) {a : Nat} (h : a ≠ s.params.nvAddr) :
    (s.nvWrite v).readByte a = s.readByte a := by
  simp [State.readByte, Memory.read_write_other _ _ h]

/-- The storage the machine starts with is canonical. -/
theorem State.reset_mem_wf : State.reset.mem.wf := List.Pairwise.nil

theorem State.memAfterReset_wf {s : State} (h : s.mem.wf) : s.memAfterReset.wf := by
  unfold State.memAfterReset
  split
  · exact Memory.write_wf h _ _
  · exact h

end Sys2Proof.Machine
end

