-- ==== Sys2Proof/Laws/Ops.lean ====
section
/-! SUPPORT. What each shared operation can do, said once. -/

namespace Sys2Proof.Machine

/-! ## The multiplexer -/

/-- The selection network: the addressed channel or a broadcast carries the duty, a channel not addressed carries 0. -/
theorem muxOut_cases (d : Duty) (c k : Selector) :
    (muxOut d c k = d ∧ (c = 0 ∨ 5 ≤ c.toNat ∨ c = k)) ∨ (muxOut d c k = 0 ∧ c ≠ 0 ∧ c.toNat < 5 ∧ c ≠ k) := by
  unfold muxOut
  split
  · rename_i h
    exact .inl ⟨rfl, h.elim .inl fun h => .inr (.inl h)⟩
  · rename_i h
    split
    · rename_i hk
      exact .inl ⟨rfl, .inr (.inr hk)⟩
    · rename_i hk
      exact .inr ⟨rfl, fun h0 => h (.inl h0), Nat.lt_of_not_le fun h5 => h (.inr h5), hk⟩

@[simp] theorem muxOut_all (d : Duty) (k : Selector) : muxOut d 0#3 k = d := by simp [muxOut]

theorem muxOut_unrec (d : Duty) {c : Selector} (h : 5 ≤ c.toNat) (k : Selector) : muxOut d c k = d := by
  simp [muxOut, h]

@[simp] theorem muxOut_zero (c k : Selector) : muxOut 0#16 c k = 0#16 := by
  rcases muxOut_cases 0#16 c k with ⟨h, -⟩ | ⟨h, -⟩ <;> exact h

/-! ## The delay protocol -/

theorem State.delayTick_zero {s : State} (h : s.dly = 0) (exit : State → State) : s.delayTick exit = exit s :=
  if_pos h

theorem State.delayTick_pos {s : State} (h : s.dly ≠ 0) (exit : State → State) :
    s.delayTick exit = s.setDly (s.dly - 1) :=
  if_neg h

/-- Counting down loses exactly one tick: `DLY` never underflows (10_state.md R14). -/
theorem dly_pred_toNat {d : BitVec 32} (h : d ≠ 0) : (d - 1).toNat = d.toNat - 1 ∧ 1 ≤ d.toNat := by
  have h0 : d.toNat ≠ 0 := fun e => h (BitVec.eq_of_toNat_eq (by simpa using e))
  refine ⟨?_, by omega⟩
  have hd := d.isLt
  rw [BitVec.toNat_sub]
  simp
  omega

/-- Entering a delay of a valid number of ticks loads that number less one (10_state.md R14). -/
theorem loadDelay_toNat {k : Nat} (h : ValidTicks k) : (BitVec.ofNat 32 (k - 1)).toNat = k - 1 := by
  simp only [BitVec.toNat_ofNat]
  omega

/-! ## The operands -/

theorem clampMode_lt (v : Variant) (b : Byte) : (clampMode v b).toNat < v.modeCount := by
  unfold clampMode
  split
  · assumption
  · cases v <;> decide

theorem clampMode_eq {v : Variant} {b : Byte} (h : b.toNat < v.modeCount) : clampMode v b = b := by
  simp [clampMode, h]

theorem nextMode_toNat (v : Variant) (m : Byte) : (nextMode v m).toNat = (m.toNat + 1) % v.modeCount := by
  have h : (m.toNat + 1) % v.modeCount < 8 + 1 := by
    cases v <;> simp only [Variant.modeCount] <;> omega
  simp only [nextMode, BitVec.toNat_ofNat]
  omega

/-- The selector of the breathe animation is that of a single channel, the one after the index (30_encoding.md R44). -/
theorem animSel_toNat (c : BitVec 2) : (animSel c).toNat = c.toNat + 1 := by
  revert c
  decide

theorem nextPos_toNat {p : Byte} (h : p.toNat ≤ 254) : (nextPos p).toNat = p.toNat + 1 := by
  have hp : p ≠ 255 := by
    rintro rfl
    simp at h
  rw [nextPos, if_neg hp, BitVec.toNat_add]
  simp
  omega

/-! ## Reset -/

/-- The storage across a reset: the write completed by `nv_done = 1`, a write cut off, or nothing in flight. -/
theorem State.memAfterReset_cases (s : State) :
    (s.ph = .persist ∧ s.input.nvDone = true ∧ s.memAfterReset = s.mem.write s.params.nvAddr s.mode) ∨
    (s.ph = .persist ∧ s.input.nvDone = false ∧ s.memAfterReset = s.mem.write s.params.nvAddr s.input.nvTorn) ∨
    (s.ph ≠ .persist ∧ s.memAfterReset = s.mem) := by
  unfold State.memAfterReset State.nvWrite
  split
  · cases hd : s.input.nvDone
    · exact .inr (.inl ⟨‹_›, rfl, rfl⟩)
    · exact .inl ⟨‹_›, rfl, rfl⟩
  · exact .inr (.inr ⟨‹_›, rfl⟩)

end Sys2Proof.Machine
end

