-- ==== Sys2Proof/Laws/Exec.lean ====
section
/-! SUPPORT. `RENDER` as the operation it performs, and what it leaves in `PH` and `DLY`. -/

namespace Sys2Proof.Machine

/-- `RENDER` is the operation its mode byte selects: a proof about it is a proof about fifteen operations. -/
theorem execRender_eq (s : State) :
    execRender s = exec ((decodeRender s.params.variant s.mode).instr s.mode) s := by
  unfold execRender
  cases decodeRender s.params.variant s.mode <;> rfl

/-- What `RENDER` leaves in `PH` and `DLY`: the poll with `DLY` as it was, or one of the two delays of the demo variant. -/
theorem execRender_phase {s t : State} (h : execRender s = .next t) :
    (t.ph = .poll ∧ t.dly = s.dly) ∨
    (t.ph = .flkPause ∧ s.params.variant = .demo ∧ s.mode = 1 ∧ t.dly = BitVec.ofNat 32 (s.params.flickerTicks - 1)) ∨
    (t.ph = .brtStep ∧ s.params.variant = .demo ∧ s.mode = 2 ∧ t.dly = BitVec.ofNat 32 (s.params.breatheTicks - 1)) := by
  rw [execRender_eq] at h
  have hf := decodeRender_eq_flicker s.params.variant s.mode
  have hb := decodeRender_eq_breathe s.params.variant s.mode
  cases hd : decodeRender s.params.variant s.mode <;> rw [hd] at h hf hb
  case flicker =>
    cases h
    exact .inr (.inl ⟨rfl, (hf.1 rfl).1, (hf.1 rfl).2, rfl⟩)
  case breathe =>
    cases h
    exact .inr (.inr ⟨rfl, (hb.1 rfl).1, (hb.1 rfl).2, rfl⟩)
  all_goals
    cases h
    exact .inl ⟨rfl, rfl⟩

end Sys2Proof.Machine
end

