-- ==== Sys2Proof/Laws/PerInstr.lean ====
section
/-! SUPPORT. A family of facts about every instruction as syntax: the word of a well-formed instruction is selected by exactly
one row of the operation map, the row of its mnemonic. -/

namespace Sys2Proof.Laws

/-- Only the rows of a word's own format can select it. -/
theorem rows_of_format (v : Variant) (w : CodeWord) :
    opcodeRows.filter (Row.selects v w) =
      (match w with | .ph _ => phaseRows | .m _ => modeRows | .s _ => setchRows | .t _ => settabRows).filter
        (Row.selects v w) := by
  unfold opcodeRows
  rw [List.filter_append, List.filter_append, List.filter_append]
  cases w with
  | ph c =>
    have h1 : modeRows.filter (Row.selects v (.ph c)) = [] := rfl
    have h2 : setchRows.filter (Row.selects v (.ph c)) = [] := rfl
    have h3 : settabRows.filter (Row.selects v (.ph c)) = [] := rfl
    simp only [h1, h2, h3, List.append_nil]
  | m b =>
    have h1 : phaseRows.filter (Row.selects v (.m b)) = [] := rfl
    have h2 : setchRows.filter (Row.selects v (.m b)) = [] := rfl
    have h3 : settabRows.filter (Row.selects v (.m b)) = [] := rfl
    simp only [h1, h2, h3, List.append_nil, List.nil_append]
  | s c =>
    have h1 : phaseRows.filter (Row.selects v (.s c)) = [] := rfl
    have h2 : modeRows.filter (Row.selects v (.s c)) = [] := rfl
    have h3 : settabRows.filter (Row.selects v (.s c)) = [] := rfl
    simp only [h1, h2, h3, List.append_nil, List.nil_append]
  | t c =>
    have h1 : phaseRows.filter (Row.selects v (.t c)) = [] := rfl
    have h2 : modeRows.filter (Row.selects v (.t c)) = [] := rfl
    have h3 : setchRows.filter (Row.selects v (.t c)) = [] := rfl
    simp only [h1, h2, h3, List.nil_append]

/-- A mask of the selector bits of a format `S` word sees the selector alone: the duty bits do not enter. -/
theorem packSetch_and (c : Selector) (d : Duty) (m : Nat) :
    (packSetch c d).bits &&& (m * 2 ^ 16) = (c.toNat &&& m) * 2 ^ 16 := by
  show (c ++ d : BitVec (3 + 16)).toNat &&& (m * 2 ^ 16) = _
  rw [BitVec.toNat_append, ← Nat.shiftLeft_eq, ← Nat.shiftLeft_eq]
  apply Nat.eq_of_testBit_eq
  intro i
  simp only [Nat.testBit_and, Nat.testBit_or, Nat.testBit_shiftLeft]
  by_cases h : 16 ≤ i
  · have : d.toNat.testBit i = false := Nat.testBit_lt_two_pow (Nat.lt_of_lt_of_le d.isLt (Nat.pow_le_pow_right (by decide) h))
    simp [h, this]
  · simp [h]

/-- The rows that select a word of format `S`, by its selector alone. -/
theorem setch_rows (v : Variant) (c : Selector) (d : Duty) :
    opcodeRows.filter (Row.selects v (packSetch c d)) =
      setchRows.filter fun r => (c.toNat &&& (r.mask / 2 ^ 16)) * 2 ^ 16 == r.value := by
  refine (rows_of_format v _).trans (List.filter_congr fun r hr => ?_)
  have hs : ∀ r ∈ setchRows, r.format = .s ∧ r.variant = none ∧ r.mask = r.mask / 2 ^ 16 * 2 ^ 16 := by decide
  obtain ⟨hf, hv, hm⟩ := hs r hr
  have := packSetch_and c d (r.mask / 2 ^ 16)
  rw [← hm] at this
  simp only [Row.selects, hf, hv, this]
  rfl

namespace TableRow

/-- The one row that selects the instruction's word, in each variant that has the instruction, is that of its mnemonic. -/
def Statement (i : Instr) : Prop :=
  ∀ v : Variant, i.wellFormed v = true →
    (opcodeRows.filter (Row.selects v (encode i))).map Row.mnemonic = [i.mnemonic]

theorem bootInit : Statement .bootInit := by
  intro v _
  cases v <;> rfl
theorem bootPwm : Statement .bootPwm := by
  intro v _
  cases v <;> rfl
theorem bootLoad : Statement .bootLoad := by
  intro v _
  cases v <;> rfl
theorem poll : Statement .poll := by
  intro v _
  cases v <;> rfl
theorem dbLead : Statement .dbLead := by
  intro v _
  cases v <;> rfl
theorem dbHold : Statement .dbHold := by
  intro v _
  cases v <;> rfl
theorem dbTrail : Statement .dbTrail := by
  intro v _
  cases v <;> rfl
theorem advance : Statement .advance := by
  intro v _
  cases v <;> rfl
theorem persist : Statement .persist := by
  intro v _
  cases v <;> rfl
theorem render : Statement .render := by
  intro v _
  cases v <;> rfl
theorem flkPause : Statement .flkPause := by
  intro v _
  cases v <;> rfl
theorem brtStep : Statement .brtStep := by
  intro v _
  cases v <;> rfl
theorem renderOff : Statement .renderOff := by
  intro v _
  cases v <;> rfl
theorem renderStatic1 : Statement .renderStatic1 := by
  intro v h
  cases v
  · rfl
  · cases h
theorem renderStatic2 : Statement .renderStatic2 := by
  intro v h
  cases v
  · rfl
  · cases h
theorem renderStatic3 : Statement .renderStatic3 := by
  intro v h
  cases v
  · rfl
  · cases h
theorem renderStatic4 : Statement .renderStatic4 := by
  intro v h
  cases v
  · rfl
  · cases h
theorem renderStatic5 : Statement .renderStatic5 := by
  intro v h
  cases v
  · rfl
  · cases h
theorem renderStatic6 : Statement .renderStatic6 := by
  intro v h
  cases v
  · rfl
  · cases h
theorem renderStatic7 : Statement .renderStatic7 := by
  intro v h
  cases v
  · rfl
  · cases h
theorem renderFlicker : Statement .renderFlicker := by
  intro v h
  cases v
  · cases h
  · rfl
theorem renderBreathe : Statement .renderBreathe := by
  intro v h
  cases v
  · cases h
  · rfl
theorem renderSolo1 : Statement .renderSolo1 := by
  intro v h
  cases v
  · cases h
  · rfl
theorem renderSolo2 : Statement .renderSolo2 := by
  intro v h
  cases v
  · cases h
  · rfl
theorem renderSolo3 : Statement .renderSolo3 := by
  intro v h
  cases v
  · cases h
  · rfl
theorem renderSolo4 : Statement .renderSolo4 := by
  intro v h
  cases v
  · cases h
  · rfl
theorem renderRecover (mode : Byte) : Statement (.renderRecover mode) := by
  intro v h
  have hl : ∀ b : Byte, v.modeCount ≤ b.toNat → (modeRows.filter (Row.selects v (.m b))).map Row.mnemonic = ["RENDER.RECOVER"] := by
    cases v <;> decide +revert
  exact (congrArg _ (rows_of_format v _)).trans (hl mode (of_decide_eq_true h))
theorem setchAll (duty : Duty) : Statement (.setchAll duty) := by
  intro v _
  rw [encode, setch_rows]
  rfl
theorem setchCh1 (duty : Duty) : Statement (.setchCh1 duty) := by
  intro v _
  rw [encode, setch_rows]
  rfl
theorem setchCh2 (duty : Duty) : Statement (.setchCh2 duty) := by
  intro v _
  rw [encode, setch_rows]
  rfl
theorem setchCh3 (duty : Duty) : Statement (.setchCh3 duty) := by
  intro v _
  rw [encode, setch_rows]
  rfl
theorem setchCh4 (duty : Duty) : Statement (.setchCh4 duty) := by
  intro v _
  rw [encode, setch_rows]
  rfl
theorem setchUnrec (sel : Selector) (duty : Duty) : Statement (.setchUnrec sel duty) := by
  intro v h
  rw [encode, setch_rows]
  have hs : ∀ c : Selector, 5 ≤ c.toNat → c = 5 ∨ c = 6 ∨ c = 7 := by decide
  obtain h | h | h := hs sel (of_decide_eq_true h)
  all_goals
    subst h
    rfl
theorem settab (t1 t2 t3 t4 : Duty) : Statement (.settab t1 t2 t3 t4) := by
  intro v _
  refine (congrArg _ (rows_of_format v _)).trans ?_
  have h : Row.selects v (encode (.settab t1 t2 t3 t4)) ⟨"SETTAB", .t, 0, 0, none⟩ = true := by
    simp [Row.selects, encode, CodeWord.format]
  have h' : settabRows.filter (Row.selects v (encode (.settab t1 t2 t3 t4))) = settabRows := by
    simp [settabRows, List.filter, h]
  exact congrArg (List.map Row.mnemonic) h'

end TableRow

end Sys2Proof.Laws
end

