-- ==== Sys2Proof/Laws/Step.lean ====
section
/-! SUPPORT. What a step can do, said once, and the unfolding of runs. -/

namespace Sys2Proof.Machine

/-! ## Fetching -/

theorem Phase.ofCode_code (p : Phase) : Phase.ofCode p.code = some p := by
  cases p <;> rfl

theorem State.fetch_none {s : State} (h : s.muxIn = none) : s.fetch = s.ph.instr := by
  simp [State.fetch, h]

/-- The fetched word always decodes, to the operation the tick runs. -/
theorem decode_fetchWord (s : State) : decode s.params.variant s.fetchWord = .ok s.fetch := by
  unfold State.fetchWord State.fetch
  split <;> rename_i w h
  · cases w <;> simp [muxCode, decode, h]
  · simp [decode, Phase.ofCode_code, h]

/-! ## One step -/

theorem step_reset {s : State} (h : s.input.rstN = false) : step s = .next s.resetTick := by
  simp [step, h]

theorem step_run {s t : State} (h : s.input.rstN = true) (he : exec s.fetch s = .next t) :
    step s = .next (s.endTick t) := by
  simp [step, h, he]

/-- Everything a step that goes on can be: a tick in reset, or an operation and the end of the tick. -/
theorem step_cases {s t : State} (h : step s = .next t) :
    (s.input.rstN = false ∧ t = s.resetTick) ∨
    (s.input.rstN = true ∧ ∃ u, exec s.fetch s = .next u ∧ t = s.endTick u) := by
  unfold step at h
  split at h
  · rename_i hr
    split at h
    · rename_i u he
      cases h
      exact .inr ⟨hr, u, he, rfl⟩
    · cases h
    · cases h
  · rename_i hr
    cases h
    exact .inl ⟨by simpa using hr, rfl⟩

/-- In the assembled block: a tick in reset, or the phase operation of `PH` and the end of the tick. -/
theorem step_phase_cases {s t : State} (hm : s.muxIn = none) (h : step s = .next t) :
    (s.input.rstN = false ∧ t = s.resetTick) ∨
    (s.input.rstN = true ∧ ∃ u, exec s.ph.instr s = .next u ∧ t = s.endTick u) := by
  have := step_cases h
  rwa [State.fetch_none hm] at this

/-! ## Runs -/

theorem State.inputAt_zero (s : State) : s.inputAt 0 = s.input := by
  unfold State.inputAt State.input
  cases s.stimulus <;> rfl

/-- One tick later the inputs to come are one tick nearer. -/
theorem State.inputAt_next {s t : State} (h₁ : t.stimulus = s.stimulus.tail) (h₂ : t.drawn = s.drawn + 1) (j : Nat) :
    t.inputAt j = s.inputAt (j + 1) := by
  unfold State.inputAt
  rw [h₁, h₂, List.getElem?_tail, Nat.add_assoc, Nat.add_comm 1 j]

theorem after_zero (s : State) : After 0 s s := rfl

/-- The first step of a run. -/
theorem run_succ {k : Nat} {s u : State} (h : step s = .next u) :
    Sys2Proof.core.run (k + 1) s = Sys2Proof.core.run k u := by
  have h' : Sys2Proof.core.step s = .next u := h
  refine (Host.Core.run.eq_2 Sys2Proof.core s k).trans ?_
  rw [h']

theorem after_succ {k : Nat} {s u t : State} (h : step s = .next u) (hr : After k u t) : After (k + 1) s t :=
  (run_succ h).trans hr

/-- A run of at least one step has a first step. -/
theorem after_succ_cases {k : Nat} {s t : State} (h : After (k + 1) s t) : ∃ u, step s = .next u ∧ After k u t := by
  have h' := (Host.Core.run.eq_2 Sys2Proof.core s k).symm.trans h
  cases hs : step s with
  | next u =>
    refine ⟨u, rfl, ?_⟩
    have : Sys2Proof.core.step s = .next u := hs
    rwa [this] at h'
  | fault f => cases f
  | refused r =>
    have : Sys2Proof.core.step s = .refused r := hs
    rw [this] at h'
    cases h'

/-- Two runs in a row. -/
theorem after_add {j : Nat} : ∀ {k : Nat} {s u t : State}, After k s u → After j u t → After (k + j) s t
  | 0, s, u, t, h, hr => by
    have h' : Host.Outcome.next s = Host.Outcome.next u := h
    rw [Nat.zero_add, Host.Outcome.next.inj h']
    exact hr
  | k + 1, s, u, t, h, hr => by
    obtain ⟨w, hw, h⟩ := after_succ_cases h
    rw [Nat.add_right_comm]
    exact after_succ hw (after_add h hr)

/-- The inputs to come and the two flops after one tick that does not reset. -/
theorem State.endTick_inputAt (s t : State) (j : Nat) : (s.endTick t).inputAt j = s.inputAt (j + 1) :=
  State.inputAt_next rfl rfl j

theorem State.endTick_levelAt (s t : State) (j : Nat) : (s.endTick t).levelAt j = s.levelAt (j + 1) := by
  match j with
  | 0 => rfl
  | 1 => exact congrArg Inputs.btnN (State.inputAt_zero s).symm
  | j + 2 => exact congrArg Inputs.btnN (State.endTick_inputAt s t j)

end Sys2Proof.Machine
end

