-- ==== Sys2Proof/Tests/Slice0.lean ====
section
/-! SUPPORT. Tests. Every expected value is from spec/95_test_vectors.md (the vector is named) or from the rule named. The
theorems `witness_...` show that the hypotheses of a statement can be met, each clause at the ends of its range. -/

namespace Sys2Proof.Tests
open Sys2Proof Sys2Proof.Machine

/-! ## Small states -/

/-- The test instantiation of 95_test_vectors.md; rows 5 and 6 are ours. -/
def params (v : Variant) : Params where
  variant := v
  settleTicks := 2
  flickerTicks := 3
  breatheTicks := 2
  row3 := ⟨31, 32, 33, 34⟩
  row4 := ⟨41, 42, 43, 44⟩
  row5 := ⟨51, 52, 53, 54⟩
  row6 := ⟨61, 62, 63, 64⟩
  row7 := ⟨70, 71, 72, 73⟩
  soloDuty := 1000
  nvAddr := 17

/-- A tick with nothing happening: out of reset, button released, no answer. -/
def idle : Inputs := ⟨true, true, false, false, 0, 0, 0⟩

/-- The same with the button pressed. -/
def pressed : Inputs := { idle with btnN := false }

/-- A tick in reset, which leaves `0x9C` behind if it cuts a write off. -/
def inReset : Inputs := { idle with rstN := false, nvTorn := 0x9C }

/-- A tick with both platform answers 1. -/
def answered : Inputs := { idle with initDone := true, nvDone := true }

/-- A state of the assembled block: `DUTY = [9, 9, 9, 9]`, `NV = nv`. -/
def st (v : Variant) (p : Phase) (m nv : Byte) (l : List Inputs) : State :=
  { State.reset with
    ph := p, mode := m, duty1 := 9, duty2 := 9, duty3 := 9, duty4 := 9, mem := [(17, nv)], params := params v,
    stimulus := l }

/-- The four duties. -/
def duties (s : State) : List Nat := [s.duty1.toNat, s.duty2.toNat, s.duty3.toNat, s.duty4.toNat]

/-- A view of the state after one operation. -/
def after {α : Type} (i : Instr) (s : State) (f : State → α) : Option α :=
  match exec i s with
  | .next t => some (f t)
  | _ => none

/-- A view of the state after one step. -/
def afterStep {α : Type} (s : State) (f : State → α) : Option α :=
  match step s with
  | .next t => some (f t)
  | _ => none

/-! ## Well-formedness: each check refuses an ill-formed term -/

theorem test_panel_has_no_demo_operation :
    [Instr.renderFlicker, .renderBreathe, .renderSolo1, .renderSolo2, .renderSolo3, .renderSolo4].map
      (Instr.wellFormed .panel) = [false, false, false, false, false, false] := by decide

theorem test_demo_has_no_static_operation :
    [Instr.renderStatic1, .renderStatic2, .renderStatic3, .renderStatic4, .renderStatic5, .renderStatic6,
      .renderStatic7].map (Instr.wellFormed .demo) = [false, false, false, false, false, false, false] := by decide

theorem test_recover_byte_is_out_of_range :
    (Instr.renderRecover 7).wellFormed .panel = false ∧ (Instr.renderRecover 8).wellFormed .panel = true ∧
    (Instr.renderRecover 6).wellFormed .demo = false ∧ (Instr.renderRecover 7).wellFormed .demo = true := by decide

theorem test_unrec_selector_is_unrecognized :
    (Instr.setchUnrec 4 300).wellFormed .panel = false ∧ (Instr.setchUnrec 5 300).wellFormed .panel = true := by decide

/-! ## Decoding: words from the spec's encodings (30_encoding.md R38 to R42, 95_test_vectors.md) -/

theorem test_decode_phase_words :
    [0b0000, 0b0001, 0b0010, 0b0011, 0b0100, 0b0101, 0b0110, 0b0111, 0b1000, 0b1001, 0b1010, 0b1011].map
      (fun c => (decode .panel (.ph c)).toOption) =
    [some .bootInit, some .bootPwm, some .bootLoad, some .poll, some .dbLead, some .dbHold, some .dbTrail,
      some .advance, some .persist, some .render, some .flkPause, some .brtStep] := by decide

theorem test_decode_reserved_phase_codes :
    [0b1100, 0b1101, 0b1110, 0b1111].map (fun c => (decode .demo (.ph c)).toOption) = [none, none, none, none] := by
  decide

theorem test_decode_panel_mode_bytes :
    [0x00, 0x01, 0x02, 0x03, 0x04, 0x05, 0x06, 0x07, 0x08, 0xFF].map (fun b => (decode .panel (.m b)).toOption) =
    [some .renderOff, some .renderStatic1, some .renderStatic2, some .renderStatic3, some .renderStatic4,
      some .renderStatic5, some .renderStatic6, some .renderStatic7, some (.renderRecover 0x08),
      some (.renderRecover 0xFF)] := by decide

theorem test_decode_demo_mode_bytes :
    [0x00, 0x01, 0x02, 0x03, 0x04, 0x05, 0x06, 0x07, 0x9C].map (fun b => (decode .demo (.m b)).toOption) =
    [some .renderOff, some .renderFlicker, some .renderBreathe, some .renderSolo1, some .renderSolo2,
      some .renderSolo3, some .renderSolo4, some (.renderRecover 0x07), some (.renderRecover 0x9C)] := by decide

/-- V-MUX. -/
theorem test_decode_setch_words :
    [0x0012C, 0x1012C, 0x2012C, 0x3012C, 0x40FFF, 0x5012C, 0x6012C, 0x7012C].map
      (fun w => (decode .panel (.s w)).toOption) =
    [some (.setchAll 300), some (.setchCh1 300), some (.setchCh2 300), some (.setchCh3 300), some (.setchCh4 4095),
      some (.setchUnrec 5 300), some (.setchUnrec 6 300), some (.setchUnrec 7 300)] := by decide

/-- V-MUX. -/
theorem test_decode_settab_words :
    (decode .panel (.t 0x0013000E00120015)).toOption = some (.settab 21 18 14 19) ∧
    (decode .panel (.t 0xFFFF00000FFF0000)).toOption = some (.settab 0 4095 0 65535) := by decide

/-- V-MUX, V-RND, V-FLK, V-BRD: the words of the commands. -/
theorem test_encode_command_words :
    encode (.setchCh2 3) = .s 0x20003 ∧ encode (.setchCh4 1000) = .s 0x403E8 ∧ encode (.setchAll 15) = .s 0x0000F ∧
    encode (.settab 31 32 33 34) = .t 0x002200210020001F := by decide

/-- 30_encoding.md: the numbers of rows and of mnemonics of the operation map. -/
theorem test_operation_map_rows :
    opcodeRows.length = 40 ∧ (opcodeRows.map Row.mnemonic).eraseDups.length = 34 := by decide

theorem test_table_words :
    decodeTableWord 8 0x3 = some .poll ∧ decodeTableWord 8 0x80 = some (.renderRecover 0x80) ∧
    decodeTableWord 24 0x2012C = some (.setchCh2 300) ∧
    decodeTableWord 64 0x0013000E00120015 = some (.settab 21 18 14 19) := by decide

/-! ## Boot and store -/

/-- P1 ticks 0 and 1. -/
theorem test_bootInit_waits_and_leaves :
    after .bootInit (st .panel .bootInit 0 0xFF [idle]) State.ph = some .bootInit ∧
    after .bootInit (st .panel .bootInit 0 0xFF [answered]) State.ph = some .bootPwm := by decide

/-- P1 tick 2. -/
theorem test_bootPwm_goes_on : after .bootPwm (st .panel .bootPwm 0 0xFF [idle]) State.ph = some .bootLoad := by decide

/-- V-LOAD, the panel lines. -/
theorem test_bootLoad_panel :
    [0x00, 0x01, 0x07, 0x08, 0x80, 0xFF].map (fun b => after .bootLoad (st .panel .bootLoad 0 b [idle])
      fun t => (t.ph, t.mode, t.nv == b)) =
    [some (.poll, 0, true), some (.poll, 1, true), some (.poll, 7, true), some (.poll, 0, true), some (.poll, 0, true),
      some (.poll, 0, true)] := by decide

/-- V-LOAD, the demo lines. -/
theorem test_bootLoad_demo :
    [0x06, 0x07, 0xFF].map (fun b => after .bootLoad (st .demo .bootLoad 0 b [idle]) State.mode) =
    [some 6, some 0, some 0] := by decide

/-- V-PER. -/
theorem test_persist :
    after .persist (st .panel .persist 2 0xFF [idle]) (fun t => (t.ph, t.nv)) = some (.persist, 0xFF) ∧
    after .persist (st .panel .persist 2 0xFF [answered]) (fun t => (t.ph, t.nv)) = some (.render, 2) ∧
    after .persist (st .panel .persist 0 7 [answered]) (fun t => (t.ph, t.nv)) = some (.render, 0) := by decide

/-- V-PER, the outputs while the request is held, and the last line: `nv_done` outside `PERSIST`. -/
theorem test_persist_outputs :
    ((st .panel .persist 2 0xFF []).outputs.nvWe, (st .panel .persist 2 0xFF []).outputs.nvWdata,
      (st .panel .persist 2 0xFF []).outputs.nvRe, (st .panel .persist 2 0xFF []).outputs.press) =
      (true, 2, false, false) ∧
    afterStep (st .panel .poll 2 1 [answered]) (fun t => (t.ph, t.nv)) = some (.render, 1) := by decide

/-! ## The button -/

/-- V-DLY: `DB_LEAD` entered with `S = 2` counts 1, 0. -/
theorem test_poll :
    after .poll { st .panel .poll 1 1 [idle] with sync1 := false } (fun t => (t.ph, t.dly.toNat)) = some (.dbLead, 1) ∧
    after .poll (st .panel .poll 1 1 [idle]) (fun t => (t.ph, t.dly.toNat)) = some (.render, 0) := by decide

/-- V-DLY. -/
theorem test_dbLead :
    after .dbLead { st .panel .dbLead 1 1 [idle] with dly := 1 } (fun t => (t.ph, t.dly.toNat)) = some (.dbLead, 0) ∧
    after .dbLead (st .panel .dbLead 1 1 [idle]) (fun t => (t.ph, t.dly.toNat)) = some (.dbHold, 0) := by decide

/-- P2 ticks 17 and 20, with `S = 2`. -/
theorem test_dbHold :
    after .dbHold { st .panel .dbHold 1 1 [idle] with sync1 := false } (fun t => (t.ph, t.dly.toNat)) =
      some (.dbHold, 0) ∧
    after .dbHold (st .panel .dbHold 1 1 [idle]) (fun t => (t.ph, t.dly.toNat)) = some (.dbTrail, 1) := by decide

/-- P1 ticks 14 and 15. -/
theorem test_dbTrail :
    after .dbTrail { st .panel .dbTrail 1 1 [idle] with dly := 1 } (fun t => (t.ph, t.dly.toNat)) =
      some (.dbTrail, 0) ∧
    after .dbTrail (st .panel .dbTrail 1 1 [idle]) (fun t => (t.ph, t.dly.toNat)) = some (.advance, 0) := by decide

/-- V-DLY: with `S = 2^32 - 1`, `DLY = 0xFFFFFFFE` on entry. -/
theorem test_longest_settle_delay :
    ((st .panel .poll 1 1 []).loadDelay (2 ^ 32 - 1)).dly = 0xFFFFFFFE := by decide

/-- V-SYN: one tick of the two flops. -/
theorem test_synchronizer :
    afterStep (st .panel .poll 1 1 [pressed]) (fun t => (t.sync0, t.sync1)) = some (false, true) ∧
    afterStep { st .panel .poll 1 1 [idle] with sync0 := false } (fun t => (t.sync0, t.sync1)) =
      some (true, false) := by decide

/-! ## The mode -/

/-- V-ADV, the panel lines. -/
theorem test_advance_panel :
    [1, 6, 7, 0, 255].map (fun m => after .advance (st .panel .advance m 0 [idle]) fun t => (t.ph, t.mode)) =
    [some (.persist, 2), some (.persist, 7), some (.persist, 0), some (.persist, 1), some (.persist, 0)] := by decide

/-- V-ADV, the demo lines, with `ANIM_CH = 3`. -/
theorem test_advance_demo :
    [5, 6, 2, 255].map (fun m => after .advance { st .demo .advance m 0 [idle] with animCh := 3 }
      fun t => (t.mode, t.animCh)) = [some (6, 0), some (0, 0), some (3, 0), some (4, 0)] := by decide

/-! ## The render operations (V-RND, V-FLK, V-BRD) -/

theorem test_render_decodes_mode :
    after .render (st .panel .render 2 2 [idle]) (fun t => (t.ph, duties t)) = some (.poll, [21, 18, 14, 19]) ∧
    after .render (st .demo .render 2 2 [idle]) (fun t => (t.ph, duties t)) = some (.brtStep, [0, 0, 0, 0]) := by decide

theorem test_renderOff :
    after .renderOff (st .panel .render 0 0 [idle]) (fun t => (t.ph, t.mode, duties t)) =
      some (.poll, 1, [0, 0, 0, 0]) := by decide

theorem test_renderStatic1 :
    after .renderStatic1 (st .panel .render 1 1 [idle]) (fun t => (t.ph, duties t)) =
      some (.poll, [2, 2, 2, 2]) := by decide

theorem test_renderStatic2 :
    after .renderStatic2 (st .panel .render 2 2 [idle]) (fun t => (t.ph, duties t)) =
      some (.poll, [21, 18, 14, 19]) := by decide

theorem test_renderStatic3 :
    after .renderStatic3 (st .panel .render 3 3 [idle]) (fun t => (t.ph, duties t)) =
      some (.poll, [31, 32, 33, 34]) := by decide

theorem test_renderStatic4 :
    after .renderStatic4 (st .panel .render 4 4 [idle]) (fun t => (t.ph, duties t)) =
      some (.poll, [41, 42, 43, 44]) := by decide

theorem test_renderStatic5 :
    after .renderStatic5 (st .panel .render 5 5 [idle]) (fun t => (t.ph, duties t)) =
      some (.poll, [51, 52, 53, 54]) := by decide

theorem test_renderStatic6 :
    after .renderStatic6 (st .panel .render 6 6 [idle]) (fun t => (t.ph, duties t)) =
      some (.poll, [61, 62, 63, 64]) := by decide

theorem test_renderStatic7 :
    after .renderStatic7 (st .panel .render 7 7 [idle]) (fun t => (t.ph, duties t)) =
      some (.poll, [70, 71, 72, 73]) := by decide

theorem test_renderRecover :
    after (.renderRecover 200) (st .panel .render 200 200 [idle]) (fun t => (t.ph, t.mode, duties t)) =
      some (.poll, 0, [0, 0, 0, 0]) ∧
    after .render (st .demo .render 7 7 [idle]) (fun t => (t.ph, t.mode, duties t)) =
      some (.poll, 0, [0, 0, 0, 0]) := by decide

/-- V-FLK. -/
theorem test_renderFlicker :
    [(0, 0), (39, 4), (40, 5), (79, 9), (1003, 7), (12345, 6), (65533, 3), (65535, 65535)].map
      (fun d => after .renderFlicker (st .demo .render 1 1 [{ idle with rndDuty := d.1, rndSel := d.2 }]) duties) =
    [some [0, 0, 0, 0], some [0, 0, 0, 39], some [0, 0, 0, 0], some [0, 0, 0, 39], some [0, 3, 0, 0],
      some [25, 0, 0, 0], some [0, 0, 13, 0], some [15, 15, 15, 15]] := by decide

theorem test_renderFlicker_pause :
    after .renderFlicker (st .demo .render 1 1 [idle]) (fun t => (t.ph, t.dly.toNat)) = some (.flkPause, 2) := by decide

/-- P2 ticks 8 and 9. -/
theorem test_flkPause :
    after .flkPause { st .demo .flkPause 1 1 [idle] with dly := 1 } (fun t => (t.ph, t.dly.toNat)) =
      some (.flkPause, 0) ∧
    after .flkPause (st .demo .flkPause 1 1 [idle]) (fun t => (t.ph, t.dly.toNat)) = some (.poll, 0) := by decide

theorem test_renderBreathe :
    after .renderBreathe { st .demo .render 2 2 [idle] with animCh := 2, animPos := 77 }
      (fun t => (t.ph, t.dly.toNat, t.animCh, t.animPos, duties t)) = some (.brtStep, 1, 2, 0, [0, 0, 0, 0]) := by decide

/-- V-BRD, the table of `breathe_duty`. -/
theorem test_breathe_duty :
    [0, 1, 2, 126, 127, 128, 129, 252, 253, 254].map (fun i => (breatheDuty i).toNat) =
    [0, 1, 2, 126, 127, 126, 125, 2, 1, 0] := by decide

/-- V-BRD, the cases (a) and (b). -/
theorem test_brtStep_delay_and_end :
    after .brtStep { st .demo .brtStep 2 2 [idle] with dly := 1, animPos := 5 }
      (fun t => (t.ph, t.dly.toNat, t.animPos, duties t)) = some (.brtStep, 0, 5, [9, 9, 9, 9]) ∧
    after .brtStep { st .demo .brtStep 2 2 [idle] with animPos := 254, animCh := 1 }
      (fun t => (t.ph, t.animCh, t.animPos)) = some (.poll, 2, 0) ∧
    after .brtStep { st .demo .brtStep 2 2 [idle] with animPos := 254, animCh := 3 }
      (fun t => (t.ph, t.animCh, t.animPos)) = some (.poll, 0, 0) := by decide

/-- V-BRD, the case (c). -/
theorem test_brtStep_next :
    [(5, 0), (126, 0), (127, 0), (253, 1)].map (fun c =>
      after .brtStep { st .demo .brtStep 2 2 [idle] with animPos := c.1, animCh := c.2 }
        fun t => (t.dly.toNat, t.animPos, duties t)) =
    [some (1, 6, [6, 0, 0, 0]), some (1, 127, [127, 0, 0, 0]), some (1, 128, [126, 0, 0, 0]),
      some (1, 254, [0, 0, 0, 0])] := by decide

theorem test_renderSolo1 :
    after .renderSolo1 (st .demo .render 3 3 [idle]) (fun t => (t.ph, duties t)) =
      some (.poll, [1000, 0, 0, 0]) := by decide

theorem test_renderSolo2 :
    after .renderSolo2 (st .demo .render 4 4 [idle]) (fun t => (t.ph, duties t)) =
      some (.poll, [0, 1000, 0, 0]) := by decide

theorem test_renderSolo3 :
    after .renderSolo3 (st .demo .render 5 5 [idle]) (fun t => (t.ph, duties t)) =
      some (.poll, [0, 0, 1000, 0]) := by decide

theorem test_renderSolo4 :
    after .renderSolo4 (st .demo .render 6 6 [idle]) (fun t => (t.ph, duties t)) =
      some (.poll, [0, 0, 0, 1000]) := by decide

/-! ## The multiplexer (V-MUX) -/

/-- The duties after one command. -/
def afterCommand (i : Instr) : Option (List Nat) := after i (st .panel .poll 1 1 [idle]) duties

theorem test_setchAll :
    [300, 0, 65535].map (fun d => afterCommand (.setchAll d)) =
    [some [300, 300, 300, 300], some [0, 0, 0, 0], some [65535, 65535, 65535, 65535]] := by decide

theorem test_setchCh1 : afterCommand (.setchCh1 300) = some [300, 0, 0, 0] := by decide

theorem test_setchCh2 : afterCommand (.setchCh2 300) = some [0, 300, 0, 0] := by decide

theorem test_setchCh3 :
    [300, 0].map (fun d => afterCommand (.setchCh3 d)) = [some [0, 0, 300, 0], some [0, 0, 0, 0]] := by decide

theorem test_setchCh4 :
    [300, 4095].map (fun d => afterCommand (.setchCh4 d)) = [some [0, 0, 0, 300], some [0, 0, 0, 4095]] := by decide

theorem test_setchUnrec :
    [5, 6, 7].map (fun c => afterCommand (.setchUnrec c 300)) =
    [some [300, 300, 300, 300], some [300, 300, 300, 300], some [300, 300, 300, 300]] := by decide

theorem test_settab :
    afterCommand (.settab 21 18 14 19) = some [21, 18, 14, 19] ∧
    afterCommand (.settab 0 4095 0 65535) = some [0, 4095, 0, 65535] := by decide

/-- A command at the command input runs in the place of the phase rule, once (log 8). -/
theorem test_command_input :
    afterStep { st .panel .poll 1 1 [idle] with muxIn := some (.setch 0x2012C) }
      (fun t => (t.ph, duties t, t.muxIn)) = some (.poll, [0, 300, 0, 0], none) := by decide

/-! ## Reset (V-RST) and placing a word -/

/-- A state with no register at its reset value. -/
def midSweep : State :=
  { st .demo .brtStep 2 2 [inReset] with dly := 3, animCh := 1, animPos := 5, sync0 := false, sync1 := false }

theorem test_reset_tick :
    afterStep midSweep (fun t => (t.ph, t.sync0, t.sync1, t.dly, t.mode)) = some (.bootInit, true, true, 0, 0) ∧
    afterStep midSweep (fun t => (duties t, t.animCh, t.animPos, t.nv)) = some ([0, 0, 0, 0], 0, 0, 2) := by decide

/-- P4: the loss in `PERSIST` before `nv_done` leaves any byte, and a tick earlier it leaves the old one; R27 and R101: with
`nv_done = 1` at the tick of the loss the byte is `MODE`. -/
theorem test_reset_in_persist :
    afterStep (st .panel .persist 4 3 [inReset]) State.nv = some 0x9C ∧
    afterStep (st .panel .persist 4 3 [{ inReset with nvDone := true }]) State.nv = some 4 ∧
    afterStep (st .panel .advance 3 3 [inReset]) State.nv = some 3 := by decide

theorem test_withFetchWord :
    afterStep ((st .panel .poll 1 1 [inReset]).withFetchWord 8 0xA) State.ph = some .poll ∧
    afterStep ((st .panel .poll 1 1 [inReset]).withFetchWord 8 200) (fun t => (t.mode, duties t)) =
      some (0, [0, 0, 0, 0]) ∧
    afterStep ((st .panel .poll 1 1 [inReset]).withFetchWord 24 0x2012C) duties = some [0, 300, 0, 0] := by decide

/-- R136: 10 ms, 1 s and 10 ms at 32 kHz. -/
theorem test_reference_durations :
    ((params .panel).atReferenceDurations 32000).settleTicks = 320 ∧
    ((params .panel).atReferenceDurations 32000).flickerTicks = 32000 ∧
    ((params .panel).atReferenceDurations 32000).breatheTicks = 320 := by decide

/-! ## Witnesses: encodings -/

theorem witness_DecodeEncodeRoundTrip :
    (Instr.renderRecover 8).wellFormed .panel = true ∧ (Instr.renderRecover 7).wellFormed .demo = true ∧
    (Instr.setchUnrec 5 0xFFFF).wellFormed .panel = true ∧ (Instr.setchUnrec 7 0).wellFormed .demo = true := by decide

theorem witness_DecodedWordEncodesBack :
    decode .panel (.m 0xFF) = .ok (.renderRecover 0xFF) ∧ decode .demo (.s 0x7FFFF) = .ok (.setchUnrec 7 0xFFFF) :=
  ⟨rfl, rfl⟩

theorem witness_EveryWordSelectsOneTableRow :
    decode .demo (.m 7) = .ok (.renderRecover 7) ∧ decode .panel (.m 7) = .ok .renderStatic7 ∧
    decode .panel (.ph 12) = .error (.reservedPhase 12) := ⟨rfl, rfl, rfl⟩

theorem witness_DecoderRefusesReservedCodesOnly :
    decode .panel (.ph 12) = .error (.reservedPhase 12) ∧ decode .demo (.ph 15) = .error (.reservedPhase 15) :=
  ⟨rfl, rfl⟩

theorem witness_PlacedTableWordRunsNext :
    decodeTableWord 8 0 = some .bootInit ∧ decodeTableWord 8 11 = some .brtStep ∧
    decodeTableWord 8 16 = some (.renderRecover 16) ∧ decodeTableWord 24 0x50000 = some (.setchUnrec 5 0) ∧
    decodeTableWord 64 0 = some (.settab 0 0 0 0) := by decide

/-! ## Witnesses: the step -/

theorem witness_StepRunsDecodedInstruction :
    (st .panel .poll 1 1 [idle]).input.rstN = true ∧
    decode (st .panel .poll 1 1 [idle]).params.variant (st .panel .poll 1 1 [idle]).fetchWord = .ok .poll ∧
    ∃ t, exec .poll (st .panel .poll 1 1 [idle]) = .next t := ⟨rfl, rfl, _, rfl⟩

/-- The same with a command at the command input. -/
theorem witness_StepRunsDecodedInstruction_command :
    let s : State := { st .panel .poll 1 1 [idle] with muxIn := some (.setch 0x2012C) }
    s.input.rstN = true ∧ decode s.params.variant s.fetchWord = .ok (.setchCh2 300) ∧
      ∃ t, exec (.setchCh2 300) s = .next t := ⟨rfl, rfl, _, rfl⟩

theorem witness_SynchronizerRunsEveryTick :
    (∃ t, (st .panel .poll 1 1 [pressed]).input.rstN = true ∧ step (st .panel .poll 1 1 [pressed]) = .next t) ∧
    (∃ t, exec .poll (st .panel .poll 1 1 [pressed]) = .next t) ∧
    (∃ t, NoReset (st .panel .poll 1 1 [pressed, idle]) 2 ∧ After 2 (st .panel .poll 1 1 [pressed, idle]) t) :=
  ⟨⟨_, rfl, rfl⟩, ⟨_, rfl⟩, ⟨_, by decide, rfl⟩⟩

theorem witness_ResetTickSetsEveryRegister : midSweep.input.rstN = false := rfl

theorem witness_ResetKeepsStoreUnlessWriteInFlight :
    (let s := st .panel .persist 4 3 [{ inReset with nvDone := true }]
     ∃ t, s.input.rstN = false ∧ step s = .next t ∧ s.ph = .persist ∧ s.input.nvDone = true) ∧
    (let s := st .panel .persist 4 3 [inReset]
     ∃ t, s.input.rstN = false ∧ step s = .next t ∧ s.ph = .persist ∧ s.input.nvDone = false) ∧
    (∃ t, midSweep.input.rstN = false ∧ step midSweep = .next t ∧ midSweep.ph ≠ .persist) :=
  ⟨⟨_, rfl, rfl, rfl, rfl⟩, ⟨_, rfl, rfl, rfl, rfl⟩, ⟨_, rfl, rfl, by decide⟩⟩

theorem witness_ParametersNeverChange :
    (∃ t, step (st .panel .poll 1 1 [idle]) = .next t) ∧ (∃ t, step midSweep = .next t) := ⟨⟨_, rfl⟩, ⟨_, rfl⟩⟩

/-- Two inputs that differ in all that the phase does not sample: in a poll, and in a flicker render. -/
theorem witness_OnlySampledInputsMatter :
    idle.rstN = true ∧ answered.rstN = true ∧ idle.btnN = answered.btnN ∧
    ((st .demo .poll 1 1 []).ph = .bootInit → idle.initDone = answered.initDone) ∧
    ((st .demo .poll 1 1 []).ph = .persist → idle.nvDone = answered.nvDone) ∧
    ((st .demo .render 1 1 []).ph = .render → (st .demo .render 1 1 []).params.variant = .demo →
      (st .demo .render 1 1 []).mode = 1 → idle.rndDuty = answered.rndDuty ∧ idle.rndSel = answered.rndSel) := by
  decide

theorem witness_PhaseTakesGraphTransitions :
    (∃ t, (st .demo .render 1 1 [idle]).muxIn = none ∧ step (st .demo .render 1 1 [idle]) = .next t ∧
      (st .demo .render 1 1 [idle]).input.rstN = true) ∧
    (∃ t, midSweep.muxIn = none ∧ step midSweep = .next t ∧ midSweep.input.rstN = false) :=
  ⟨⟨_, rfl, rfl, rfl⟩, ⟨_, rfl, rfl, rfl⟩⟩

/-! ## Witnesses: boot and button -/

theorem witness_BootInitAndBootPwmResults :
    (st .panel .bootInit 0 0 [answered]).input.initDone = true ∧
    (st .panel .bootInit 0 0 [idle]).input.initDone = false := ⟨rfl, rfl⟩

theorem witness_BootLoadClampsStoredByte :
    (st .panel .bootLoad 0 7 []).nv.toNat < (st .panel .bootLoad 0 7 []).params.variant.modeCount ∧
    (st .panel .bootLoad 0 8 []).params.variant.modeCount ≤ (st .panel .bootLoad 0 8 []).nv.toNat ∧
    (st .demo .bootLoad 0 6 []).nv.toNat < (st .demo .bootLoad 0 6 []).params.variant.modeCount ∧
    (st .demo .bootLoad 0 7 []).params.variant.modeCount ≤ (st .demo .bootLoad 0 7 []).nv.toNat := by decide

/-- P1: `init_done` first at tick 1; and at tick 0. -/
theorem witness_BootReachesPollInThreeTicks :
    (let s := st .panel .bootInit 0 0xFF [idle, answered, idle, idle]
     s.ph = .bootInit ∧ s.muxIn = none ∧ NoReset s (1 + 3) ∧ (∀ j, j < 1 → (s.inputAt j).initDone = false) ∧
       (s.inputAt 1).initDone = true) ∧
    (let s := st .demo .bootInit 0 6 [answered, idle, idle]
     s.ph = .bootInit ∧ s.muxIn = none ∧ NoReset s (0 + 3) ∧ (∀ j, j < 0 → (s.inputAt j).initDone = false) ∧
       (s.inputAt 0).initDone = true) := by decide

theorem witness_PollTestsTheLevel :
    ({ st .panel .poll 1 1 [] with sync1 := false } : State).sync1 = false ∧ (st .panel .poll 1 1 []).sync1 = true :=
  ⟨rfl, rfl⟩

theorem witness_DelayPhaseResults :
    ({ st .panel .dbLead 1 1 [] with dly := 0xFFFFFFFE } : State).dly ≠ 0 ∧
    ({ st .panel .dbLead 1 1 [] with dly := 1 } : State).dly ≠ 0 ∧ (st .panel .dbLead 1 1 []).dly = 0 := by decide

theorem witness_DbHoldWaitsForRelease :
    (st .panel .dbHold 1 1 []).sync1 = true ∧ ({ st .panel .dbHold 1 1 [] with sync1 := false } : State).sync1 = false :=
  ⟨rfl, rfl⟩

/-- Each of the three phases; a delay of one tick and delays of two and three. -/
theorem witness_DelayLastsExactlyItsTicks :
    (let s := st .panel .dbLead 1 1 [idle]
     s.muxIn = none ∧ s.ph = .dbLead ∧ s.dly.toNat = 0 ∧ NoReset s (0 + 1)) ∧
    (let s : State := { st .panel .dbTrail 1 1 [idle, idle] with dly := 1 }
     s.muxIn = none ∧ s.ph = .dbTrail ∧ s.dly.toNat = 1 ∧ NoReset s (1 + 1)) ∧
    (let s : State := { st .demo .flkPause 1 1 [idle, idle, idle] with dly := 2 }
     s.muxIn = none ∧ s.ph = .flkPause ∧ s.dly.toNat = 2 ∧ NoReset s (2 + 1)) := by decide

/-- A poll that reads pressed at tick 0, with the pin at the ticks before it in the flops. -/
def pressPoll (l : List Inputs) : State := { st .panel .poll 1 1 l with sync0 := false, sync1 := false }

/-- `S = 2`: released by tick `S`, so that `DB_HOLD` lasts one tick; and held, so that it lasts two. -/
theorem witness_PressIsFirstReportedAtItsTick :
    (let s := pressPoll [pressed, idle, idle, idle, idle, idle]
     s.ph = .poll ∧ s.muxIn = none ∧ s.params.Valid ∧ s.sync1 = false ∧
       (∀ j, j < 2 + 1 → 2 < j → s.levelAt j = false) ∧ s.levelAt (2 + 1) = true ∧ NoReset s (2 * 2 + 1 + 1)) ∧
    (let s := pressPoll [pressed, pressed, idle, idle, idle, idle, idle]
     s.ph = .poll ∧ s.muxIn = none ∧ s.params.Valid ∧ s.sync1 = false ∧
       (∀ j, j < 2 + 2 → 2 < j → s.levelAt j = false) ∧ s.levelAt (2 + 2) = true ∧ NoReset s (2 * 2 + 2 + 1)) := by
  decide

/-- P9, three ticks of it. -/
theorem witness_StuckButtonHangsInDbHold :
    let s : State := { st .panel .dbHold 3 3 [pressed, pressed, pressed] with sync0 := false, sync1 := false }
    s.ph = .dbHold ∧ s.muxIn = none ∧ NoReset s 3 ∧ ∀ j, j < 3 → s.levelAt j = false := by decide

/-! ## Witnesses: mode and store -/

theorem witness_PersistStoresModeWhenDone :
    (st .panel .persist 2 0xFF [idle]).input.nvDone = false ∧
    (st .panel .persist 2 0xFF [answered]).input.nvDone = true := ⟨rfl, rfl⟩

theorem witness_OnlyPersistTouchesTheStore :
    (∃ t, exec .persist (st .panel .persist 2 0xFF [answered]) = .next t) ∧
    (∃ t, exec .bootLoad (st .panel .bootLoad 2 0xFF [idle]) = .next t ∧ Instr.bootLoad ≠ .persist) :=
  ⟨⟨_, rfl⟩, ⟨_, rfl, by decide⟩⟩

/-- The store written, `PERSIST` left, `PERSIST` entered. -/
theorem witness_StoreIsWrittenAfterAPressOnly :
    (let s := st .panel .persist 2 0xFF [answered]
     s.input.rstN = true ∧ s.muxIn = none ∧ ∃ t, step s = .next t ∧ t.ph ≠ .persist ∧ t.readByte 17 ≠ s.readByte 17) ∧
    (let s := st .panel .advance 2 2 [idle]
     s.input.rstN = true ∧ s.muxIn = none ∧ ∃ t, step s = .next t ∧ s.ph ≠ .persist ∧ t.ph = .persist) :=
  ⟨⟨rfl, rfl, _, rfl, by decide, by decide⟩, ⟨rfl, rfl, _, rfl, by decide, rfl⟩⟩

/-- An operation of the list, and `RENDER` in mode 0 and in the first mode out of range. -/
theorem witness_CursorIsClearedWithEveryModeWrite :
    (∃ t, exec .advance { st .demo .advance 2 2 [idle] with animCh := 3 } = .next t ∧ t.mode = 3) ∧
    (∃ t, exec .render (st .panel .render 0 0 [idle]) = .next t ∧ t.mode = 1) ∧
    (∃ t, exec .render (st .demo .render 7 7 [idle]) = .next t ∧ t.mode = 0) :=
  ⟨⟨_, rfl, rfl⟩, ⟨_, rfl, rfl⟩, ⟨_, rfl, rfl⟩⟩

/-! ## Witnesses: render operations and multiplexer -/

theorem witness_RenderPerformsTheSelectedOperation :
    ((st .panel .render 0 0 []).mode = 0 ∧ (st .panel .render 7 7 []).params.variant = .panel ∧
      (st .panel .render 7 7 []).mode = 7 ∧ 8 ≤ (st .panel .render 8 8 []).mode.toNat) ∧
    ((st .demo .render 6 6 []).params.variant = .demo ∧ (st .demo .render 6 6 []).mode = 6 ∧
      7 ≤ (st .demo .render 7 7 []).mode.toNat) := by decide

theorem witness_StaticOperationsWriteTheirRow :
    Instr.renderStatic3 = .renderStatic3 ∧ (st .panel .render 3 3 []).params.row3 = ⟨31, 32, 33, 34⟩ ∧
    Instr.renderStatic7 = .renderStatic7 ∧ (st .panel .render 7 7 []).params.row7 = ⟨70, 71, 72, 73⟩ := by decide

theorem witness_SoloOperationsLightOneChannel :
    (Instr.renderSolo1 = .renderSolo1 ∧ (1 : Nat) = 1) ∧ (Instr.renderSolo4 = .renderSolo4 ∧ (4 : Nat) = 4) := by decide

theorem witness_FlickerAppliesBothDraws :
    (st .demo .render 1 1 [{ idle with rndSel := 5 }]).input.rndSel.toNat % 5 = 0 ∧
    (st .demo .render 1 1 [{ idle with rndSel := 9 }]).input.rndSel.toNat % 5 ≠ 0 := by decide

/-- The cases (a), (b) and (c), the last at the ends of its range. -/
theorem witness_BrtStepHasThreeCases :
    (let s : State := { st .demo .brtStep 2 2 [] with dly := 1, animPos := 254 }
     s.animPos.toNat ≤ 254 ∧ s.dly ≠ 0) ∧
    (let s : State := { st .demo .brtStep 2 2 [] with animPos := 254 }
     s.animPos.toNat ≤ 254 ∧ s.dly = 0 ∧ s.animPos = 254) ∧
    (let s : State := { st .demo .brtStep 2 2 [] with animPos := 253 }
     s.animPos.toNat ≤ 254 ∧ s.dly = 0 ∧ s.animPos ≠ 254) ∧
    (let s : State := { st .demo .brtStep 2 2 [] with animPos := 0 }
     s.animPos.toNat ≤ 254 ∧ s.dly = 0 ∧ s.animPos ≠ 254) := by decide

/-- The clauses of the sequence at the ends of their ranges. -/
theorem witness_BreatheSequenceRisesAndFallsByOne :
    [127, 128, 254].map (fun i => (breatheDuty i).toNat) = [127, 126, 0] := by decide

/-- `B = 2`, the whole sweep out of reset. -/
theorem witness_BreatheSweepLasts255Steps :
    let s := st .demo .render 2 2 (List.replicate 511 idle)
    s.ph = .render ∧ s.muxIn = none ∧ s.params.variant = .demo ∧ s.mode = 2 ∧ s.params.Valid ∧
      NoReset s (1 + 255 * s.params.breatheTicks) := by
  refine ⟨rfl, rfl, rfl, rfl, by decide, fun j hj => ?_⟩
  have hj' : j < 511 := hj
  simp only [State.inputAt, st, List.getElem?_replicate, if_pos hj', Option.getD_some]
  rfl

theorem witness_SetchCommandResults :
    5 ≤ (5 : Selector).toNat ∧ 5 ≤ (7 : Selector).toNat := by decide

/-- Selector fields 0, 1, 4, 5 and 7. -/
theorem witness_CommandWordsReadBack :
    (0x0FFFF : BitVec 19).toNat / 2 ^ 16 = 0 ∧ (0x1FFFF : BitVec 19).toNat / 2 ^ 16 = 1 ∧
    (0x4FFFF : BitVec 19).toNat / 2 ^ 16 = 4 ∧ (0x50000 : BitVec 19).toNat / 2 ^ 16 = 5 ∧
    (0x7FFFF : BitVec 19).toNat / 2 ^ 16 = 7 := by decide

theorem witness_DutiesHoldWithoutACommand :
    (let s := st .panel .persist 2 2 [idle]
     s.input.rstN = true ∧ s.muxIn = none ∧ (∃ t, step s = .next t) ∧ s.ph ≠ .render ∧ s.ph ≠ .brtStep) ∧
    (let s : State := { st .demo .brtStep 2 2 [idle] with animPos := 254 }
     s.input.rstN = true ∧ s.muxIn = none ∧ (∃ t, step s = .next t) ∧ s.ph = .brtStep ∧ s.dly = 0 ∧ s.animPos = 254) ∧
    (let s : State := { st .demo .brtStep 2 2 [idle] with dly := 1 }
     s.input.rstN = true ∧ s.muxIn = none ∧ (∃ t, step s = .next t) ∧ s.ph = .brtStep ∧ s.dly ≠ 0) :=
  ⟨⟨rfl, rfl, ⟨_, rfl⟩, by decide, by decide⟩, ⟨rfl, rfl, ⟨_, rfl⟩, rfl, rfl, rfl⟩,
    ⟨rfl, rfl, ⟨_, rfl⟩, rfl, by decide⟩⟩

/-! ## Witnesses: the invariants -/

theorem witness_ModeStaysInRange :
    (∃ t, ModeInRange (st .panel .advance 7 7 [idle]) ∧ step (st .panel .advance 7 7 [idle]) = .next t) ∧
    (∃ t, ModeInRange (st .demo .render 6 6 [idle]) ∧ step (st .demo .render 6 6 [idle]) = .next t) :=
  ⟨⟨_, by decide, rfl⟩, ⟨_, by decide, rfl⟩⟩

theorem witness_RestingModeStaysNonzero :
    (∃ t, (st .panel .render 0 0 [idle]).input.rstN = true ∧ RestingModeNonzero (st .panel .render 0 0 [idle]) ∧
      step (st .panel .render 0 0 [idle]) = .next t) ∧
    (∃ t, (st .demo .advance 6 6 [idle]).input.rstN = true ∧ RestingModeNonzero (st .demo .advance 6 6 [idle]) ∧
      step (st .demo .advance 6 6 [idle]) = .next t) :=
  ⟨⟨_, rfl, by decide, rfl⟩, ⟨_, rfl, by decide, rfl⟩⟩

/-- Past a store, and in the case `NV = 0`, `MODE = 1`. -/
theorem witness_RebootModeAgreesInvariant :
    (∃ t, ModeInRange (st .panel .persist 2 1 [answered]) ∧ RebootAgrees (st .panel .persist 2 1 [answered]) ∧
      step (st .panel .persist 2 1 [answered]) = .next t) ∧
    (∃ t, ModeInRange (st .panel .poll 1 0xFF [idle]) ∧ RebootAgrees (st .panel .poll 1 0xFF [idle]) ∧
      step (st .panel .poll 1 0xFF [idle]) = .next t) :=
  ⟨⟨_, by decide, by decide, rfl⟩, ⟨_, by decide, by decide, rfl⟩⟩

theorem witness_DelayCounterStaysInRange :
    (∃ t, (pressPoll [idle]).params.Valid ∧ DelayInRange (pressPoll [idle]) ∧ step (pressPoll [idle]) = .next t) ∧
    (∃ t, midSweep.params.Valid ∧ DelayInRange { midSweep with dly := 1 } ∧
      step { midSweep with dly := 1 } = .next t) :=
  ⟨⟨_, by decide, by decide, rfl⟩, ⟨_, by decide, by decide, rfl⟩⟩

theorem witness_PanelVariantNeverAnimates :
    ∃ t, PanelStill (st .panel .render 2 2 [idle]) ∧ step (st .panel .render 2 2 [idle]) = .next t :=
  ⟨_, by decide, rfl⟩

theorem witness_GeneratedDutiesStayLogical :
    (∃ t, DutiesLogical { st .demo .brtStep 2 2 [idle] with animPos := 254 } ∧
      step { st .demo .brtStep 2 2 [idle] with animPos := 254 } = .next t) ∧
    (∃ t, DutiesLogical { st .panel .poll 1 1 [idle] with duty1 := 4095 } ∧
      step { st .panel .poll 1 1 [idle] with duty1 := 4095 } = .next t) :=
  ⟨⟨_, by decide, rfl⟩, ⟨_, by decide, rfl⟩⟩

/-- A sweep at its first step and at its highest. -/
theorem witness_SweepStaysOnTheLights :
    (∃ t, SweepShown (st .demo .render 2 2 [idle]) ∧ step (st .demo .render 2 2 [idle]) = .next t) ∧
    (let s : State :=
      { st .demo .brtStep 2 2 [idle] with animPos := 127, animCh := 3, duty1 := 0, duty2 := 0, duty3 := 0, duty4 := 127 }
     ∃ t, SweepShown s ∧ step s = .next t) :=
  ⟨⟨_, by decide, rfl⟩, ⟨_, by decide, rfl⟩⟩

theorem witness_StoreStaysCanonical :
    ∃ t, (st .panel .persist 2 1 [answered]).mem.wf ∧ step (st .panel .persist 2 1 [answered]) = .next t :=
  ⟨_, by decide, rfl⟩

/-! ## Witnesses: several ticks -/

theorem witness_ModeZeroIsTransient :
    let s := st .panel .render 0 0 [idle, idle]
    s.ph = .render ∧ s.mode = 0 ∧ s.muxIn = none ∧ NoReset s 2 ∧ s.levelAt 1 = true := by decide

/-- The first byte out of range of the demo variant, and P1's. -/
theorem witness_OutOfRangeByteRendersAsModeZero :
    (let s := st .demo .bootLoad 0 7 [idle, idle, idle, idle]
     s.ph = .bootLoad ∧ s.muxIn = none ∧ s.params.variant.modeCount ≤ s.nv.toNat ∧ NoReset s 4 ∧ s.levelAt 1 = true ∧
       s.levelAt 3 = true) ∧
    (let s := st .panel .bootLoad 0 0xFF [idle, idle, idle, idle]
     s.ph = .bootLoad ∧ s.muxIn = none ∧ s.params.variant.modeCount ≤ s.nv.toNat ∧ NoReset s 4 ∧ s.levelAt 1 = true ∧
       s.levelAt 3 = true) := by decide

/-- V-SEQ: the wrapping press of the panel variant with no wait, and a press of the demo variant with one. -/
theorem witness_PressMovesToNextRestingMode :
    (let s := st .panel .advance 7 7 [idle, answered, idle]
     s.ph = .advance ∧ s.muxIn = none ∧ s.mode ≠ 0 ∧ ModeInRange s ∧ NoReset s (0 + 3) ∧
       (∀ j, j < 0 + 1 → 1 ≤ j → (s.inputAt j).nvDone = false) ∧ (s.inputAt (0 + 1)).nvDone = true) ∧
    (let s := st .demo .advance 1 1 [idle, idle, answered, idle]
     s.ph = .advance ∧ s.muxIn = none ∧ s.mode ≠ 0 ∧ ModeInRange s ∧ NoReset s (1 + 3) ∧
       (∀ j, j < 1 + 1 → 1 ≤ j → (s.inputAt j).nvDone = false) ∧ (s.inputAt (1 + 1)).nvDone = true) := by decide

theorem witness_StoredModeSurvivesReset :
    let s := st .panel .persist 7 6 [answered, inReset, answered, idle, idle]
    s.ph = .persist ∧ s.muxIn = none ∧ ModeInRange s ∧ (s.inputAt 0).rstN = true ∧ (s.inputAt 0).nvDone = true ∧
      (s.inputAt 1).rstN = false ∧ (∀ j, j < 5 → 2 ≤ j → (s.inputAt j).rstN = true) ∧
      (s.inputAt 2).initDone = true := by decide

end Sys2Proof.Tests
end

section
/-! PROOFS. 00_scope.md: the parameters. -/

namespace Sys2Proof.Machine

/-! ## What no operation writes -/

/-- `t` agrees with `s` on the fields no operation writes: the two flops, which the synchronizer step alone writes
(44_main_loop.md R101), the parameters (00_scope.md R5), and the model's own bookkeeping of the inputs and of the command
input. -/
structure OperationFrame (s t : State) : Prop where
  sync0 : t.sync0 = s.sync0
  sync1 : t.sync1 = s.sync1
  params : t.params = s.params
  stimulus : t.stimulus = s.stimulus
  drawn : t.drawn = s.drawn
  muxIn : t.muxIn = s.muxIn

theorem OperationFrame.ite {s t u : State} {c : Prop} [Decidable c] (ht : OperationFrame s t) (hu : OperationFrame s u) :
    OperationFrame s (if c then t else u) := by
  split
  · exact ht
  · exact hu

/-- A delay tick counts `DLY` down or takes its exit action (10_state.md R14). -/
theorem OperationFrame.delayTick {s : State} {exit : State → State} (he : OperationFrame s (exit s)) :
    OperationFrame s (s.delayTick exit) :=
  .ite he ⟨rfl, rfl, rfl, rfl, rfl, rfl⟩

/-- The fifteen operations `RENDER` can select write duties, `MODE`, the cursor, `DLY` and `PH` only. -/
theorem exec_renderOp_frame {op : RenderOp} {m : Byte} {s t : State} (h : exec (op.instr m) s = .next t) :
    OperationFrame s t := by
  cases op <;> cases h <;> exact ⟨rfl, rfl, rfl, rfl, rfl, rfl⟩

theorem exec_frame {i : Instr} {s t : State} (h : exec i s = .next t) : OperationFrame s t := by
  cases i
  case render => exact exec_renderOp_frame ((execRender_eq s).symm.trans h)
  case bootInit | dbHold | poll | persist =>
    cases h
    exact .ite ⟨rfl, rfl, rfl, rfl, rfl, rfl⟩ ⟨rfl, rfl, rfl, rfl, rfl, rfl⟩
  case dbLead | dbTrail | flkPause =>
    cases h
    exact .delayTick ⟨rfl, rfl, rfl, rfl, rfl, rfl⟩
  case brtStep =>
    cases h
    exact .delayTick (.ite ⟨rfl, rfl, rfl, rfl, rfl, rfl⟩ ⟨rfl, rfl, rfl, rfl, rfl, rfl⟩)
  all_goals
    cases h
    exact ⟨rfl, rfl, rfl, rfl, rfl, rfl⟩

/-! ## The parameters -/

/-- Settles O13: a tick in reset keeps the parameters, and a tick out of reset runs one operation, which writes none of them
(00_scope.md R5, 30_encoding.md R46). -/
theorem parametersNeverChange : Obligations.ParametersNeverChange := by
  intro s t h
  obtain ⟨-, rfl⟩ | ⟨-, u, hu, rfl⟩ := step_cases h
  · exact s.resetTick_params
  · exact (s.endTick_params u).trans (exec_frame hu).params

end Sys2Proof.Machine
end

section
/-! PROOFS. 10_state.md: the registers, the inputs that a tick samples, the delay counter, the sweep cursor, and the mode that
the store carries over a reset. -/

namespace Sys2Proof.Machine

/-! ## What a tick does, by what is fetched -/

/-- A command word at the command input: its operation writes four duties that no state has a say in, and nothing else
(40_channel_driver.md R49). -/
theorem fetch_command {s : State} {w : MuxWord} (hw : s.muxIn = some w) :
    ∃ d1 d2 d3 d4, ∀ t, exec s.fetch t = .next (t.setDuties d1 d2 d3 d4) := by
  unfold State.fetch
  rw [hw]
  cases w with
  | setch w =>
    simp only [decodeSetch]
    split <;> exact ⟨_, _, _, _, fun t => rfl⟩
  | settab w => exact ⟨_, _, _, _, fun t => rfl⟩

/-- Everything a step can be: a tick in reset, the operation of `PH`, or a command from outside the sequencer. -/
theorem step_operation_cases {s t : State} (h : step s = .next t) :
    t = s.resetTick ∨ (∃ u, exec s.ph.instr s = .next u ∧ t = s.endTick u) ∨
    ∃ d1 d2 d3 d4, t = s.endTick (s.setDuties d1 d2 d3 d4) := by
  obtain ⟨-, rfl⟩ | ⟨-, u, hu, rfl⟩ := step_cases h
  · exact .inl rfl
  · cases hm : s.muxIn with
    | none => exact .inr (.inl ⟨u, State.fetch_none hm ▸ hu, rfl⟩)
    | some w =>
      obtain ⟨d1, d2, d3, d4, hd⟩ := fetch_command hm
      cases (hd s).symm.trans hu
      exact .inr (.inr ⟨d1, d2, d3, d4, rfl⟩)

/-- In the assembled block, out of reset, the operation of `PH` runs. -/
theorem step_phase {s u : State} (hm : s.muxIn = none) (hr : s.input.rstN = true) (he : exec s.ph.instr s = .next u) :
    step s = .next (s.endTick u) :=
  step_run hr (by rwa [State.fetch_none hm])

/-- The last step of a run. -/
theorem after_snoc {k : Nat} {s u t : State} (h : After k s u) (hs : step u = .next t) : After (k + 1) s t :=
  after_add h (after_succ hs (after_zero t))

theorem NoReset.head {s : State} {k : Nat} (h : NoReset s (k + 1)) : s.input.rstN = true :=
  s.inputAt_zero ▸ h 0 k.succ_pos

theorem NoReset.endTick {s : State} {k : Nat} (h : NoReset s (k + 1)) (u : State) : NoReset (s.endTick u) k :=
  fun j hj => (s.endTick_inputAt u j).symm ▸ h (j + 1) (Nat.succ_lt_succ hj)

/-! ## The operations of the phases -/

/-- One tick of a delay phase: it counts, or it leaves (10_state.md R14). -/
theorem State.delayTick_cases (s : State) (exit : State → State) :
    (s.dly ≠ 0 ∧ s.delayTick exit = s.setDly (s.dly - 1)) ∨ (s.dly = 0 ∧ s.delayTick exit = exit s) := by
  by_cases h : s.dly = 0
  · exact .inr ⟨h, State.delayTick_zero h exit⟩
  · exact .inl ⟨h, State.delayTick_pos h exit⟩

/-- `p` is one of the three phases that are a delay and nothing else, and `q` is its one successor (41_button.md R62, R64,
43_mode_fsm.md R87). -/
abbrev PlainDelay (p q : Phase) : Prop :=
  p = .dbLead ∧ q = .dbHold ∨ p = .dbTrail ∧ q = .advance ∨ p = .flkPause ∧ q = .poll

theorem exec_plainDelay {p q : Phase} (h : PlainDelay p q) (s : State) :
    exec p.instr s = .next (s.delayTick (State.goto q)) := by
  obtain ⟨rfl, rfl⟩ | ⟨rfl, rfl⟩ | ⟨rfl, rfl⟩ := h <;> rfl

/-- The last position of a sweep, as the byte and as the number (43_mode_fsm.md R88). -/
theorem animPos_eq_last (p : Byte) : p = 254 ↔ p.toNat = Config.sweepLast :=
  BitVec.toNat_inj.symm

/-- The three cases of `BRT_STEP` (43_mode_fsm.md R90). -/
theorem exec_brtStep_cases {s u : State} (h : exec .brtStep s = .next u) :
    (s.dly ≠ 0 ∧ u = s.setDly (s.dly - 1)) ∨ (s.dly = 0 ∧ s.animPos = 254 ∧ u = endSweep s) ∨
    (s.dly = 0 ∧ s.animPos ≠ 254 ∧ u = nextSweepStep s) := by
  cases h
  obtain ⟨hd, h⟩ | ⟨hd, h⟩ := s.delayTick_cases fun s =>
    if s.animPos.toNat = Config.sweepLast then endSweep s else nextSweepStep s
  · exact .inl ⟨hd, h⟩
  · simp only [← animPos_eq_last] at h ⊢
    by_cases hp : s.animPos = 254
    · exact .inr (.inl ⟨hd, hp, h.trans (if_pos hp)⟩)
    · exact .inr (.inr ⟨hd, hp, h.trans (if_neg hp)⟩)

/-- `RENDER` as an instruction is the operation its mode byte selects. -/
theorem exec_render_eq (s : State) :
    exec .render s = exec ((decodeRender s.params.variant s.mode).instr s.mode) s :=
  execRender_eq s

/-- `RENDER` of mode 2 of the demo variant starts a sweep (43_mode_fsm.md R74, R89). -/
theorem execRender_breathe {s : State} (hv : s.params.variant = .demo) (hm : s.mode = 2) :
    exec .render s = execRenderBreathe s := by
  rw [exec_render_eq, (decodeRender_eq_breathe s.params.variant s.mode).2 ⟨hv, hm⟩]
  rfl

/-- The phase after `RENDER` (44_main_loop.md R107). -/
theorem execRender_ph {s u : State} (h : exec .render s = .next u) :
    u.ph = if s.params.variant = .demo ∧ s.mode = 1 then .flkPause
      else if s.params.variant = .demo ∧ s.mode = 2 then .brtStep else .poll := by
  rw [exec_render_eq] at h
  simp only [← decodeRender_eq_flicker, ← decodeRender_eq_breathe]
  cases hd : decodeRender s.params.variant s.mode <;> rw [hd] at h <;> cases h <;> rfl

/-- The operation of `PH` leads along the transition graph (44_main_loop.md R107). -/
theorem exec_phase_ph {s u : State} (h : exec s.ph.instr s = .next u) : u.ph = graphNext s := by
  unfold graphNext
  cases hp : s.ph <;> rw [hp] at h
  case render => exact execRender_ph h
  case brtStep =>
    dsimp only
    obtain ⟨hd, rfl⟩ | ⟨hd, hl, rfl⟩ | ⟨hd, hl, rfl⟩ := exec_brtStep_cases h
    · rw [if_neg fun e => hd e.1]
      exact hp
    · rw [if_pos ⟨hd, hl⟩]
      rfl
    · rw [if_neg fun e => hl e.2]
      exact hp
  case dbLead | dbTrail | flkPause =>
    cases h
    unfold State.delayTick
    split <;> simp [hp]
  case bootInit | poll | dbHold | persist =>
    cases h
    split <;> simp [hp]
  all_goals
    cases h
    rfl

/-- `FLK_PAUSE` is entered from a render of mode 1 of the demo variant only. -/
theorem graphNext_eq_flkPause {s : State} (h : graphNext s = .flkPause) :
    s.ph = .flkPause ∨ (s.ph = .render ∧ s.params.variant = .demo ∧ s.mode = 1) := by
  unfold graphNext at h
  cases hp : s.ph <;> rw [hp] at h <;> dsimp only at h
  case flkPause => exact .inl rfl
  case render =>
    split at h
    · exact .inr ⟨rfl, ‹_›⟩
    · split at h <;> cases h
  case bootInit | poll | dbLead | dbHold | dbTrail | persist | brtStep => split at h <;> cases h
  all_goals cases h

/-- `BRT_STEP` is entered from a render of mode 2 of the demo variant only. -/
theorem graphNext_eq_brtStep {s : State} (h : graphNext s = .brtStep) :
    (s.ph = .brtStep ∧ ¬ (s.dly = 0 ∧ s.animPos = 254)) ∨
    (s.ph = .render ∧ s.params.variant = .demo ∧ s.mode = 2) := by
  unfold graphNext at h
  cases hp : s.ph <;> rw [hp] at h <;> dsimp only at h
  case brtStep =>
    split at h
    · cases h
    · exact .inl ⟨rfl, ‹_›⟩
  case render =>
    split at h
    · cases h
    · split at h
      · exact .inr ⟨rfl, ‹_›⟩
      · cases h
  case bootInit | poll | dbLead | dbHold | dbTrail | persist | flkPause => split at h <;> cases h
  all_goals cases h

/-! ## The cursor -/

/-- No operation but `BRT_STEP` moves the cursor: each of its registers is kept or cleared (10_state.md R17). -/
theorem exec_cursor_kept_or_cleared {i : Instr} {s u : State} (hi : i ≠ .brtStep) (h : exec i s = .next u) :
    (u.animCh = s.animCh ∨ u.animCh = 0) ∧ (u.animPos = s.animPos ∨ u.animPos = 0) := by
  cases i
  case brtStep => exact absurd rfl hi
  case render =>
    rw [exec_render_eq] at h
    cases hd : decodeRender s.params.variant s.mode <;> rw [hd] at h
    case off | recover =>
      cases h
      exact ⟨.inr rfl, .inr rfl⟩
    case breathe =>
      cases h
      exact ⟨.inl rfl, .inr rfl⟩
    all_goals
      cases h
      exact ⟨.inl rfl, .inl rfl⟩
  case bootLoad | advance | renderOff | renderRecover =>
    cases h
    exact ⟨.inr rfl, .inr rfl⟩
  case renderBreathe =>
    cases h
    exact ⟨.inl rfl, .inr rfl⟩
  case bootInit | poll | dbHold | persist =>
    cases h
    split <;> exact ⟨.inl rfl, .inl rfl⟩
  case dbLead | dbTrail | flkPause =>
    cases h
    unfold State.delayTick
    split <;> exact ⟨.inl rfl, .inl rfl⟩
  all_goals
    cases h
    exact ⟨.inl rfl, .inl rfl⟩

theorem Phase.instr_ne_brtStep {p : Phase} (h : p ≠ .brtStep) : p.instr ≠ .brtStep := by
  cases p
  case brtStep => exact absurd rfl h
  all_goals simp [Phase.instr]

/-- A panel machine out of the animation phases stays out of them, and its cursor with it. -/
theorem exec_phase_panelStill {s u : State} (hs : PanelStill s) (h : exec s.ph.instr s = .next u) : PanelStill u := by
  intro hv
  rw [(exec_frame h).params] at hv
  obtain ⟨hf, hb, hc, hp⟩ := hs hv
  have hph := exec_phase_ph h
  obtain ⟨hc', hp'⟩ := exec_cursor_kept_or_cleared (Phase.instr_ne_brtStep hb) h
  rw [hc, or_self] at hc'
  rw [hp, or_self] at hp'
  refine ⟨fun e => ?_, fun e => ?_, hc', hp'⟩
  · obtain hq | ⟨-, hv', -⟩ := graphNext_eq_flkPause (hph.symm.trans e)
    · exact hf hq
    · simp [hv] at hv'
  · obtain ⟨hq, -⟩ | ⟨-, hv', -⟩ := graphNext_eq_brtStep (hph.symm.trans e)
    · exact hb hq
    · simp [hv] at hv'

/-- Settles O49: a panel machine has no render operation that starts an animation, and out of `BRT_STEP` a cursor register is
kept or cleared. -/
theorem panelVariantNeverAnimates : Obligations.PanelVariantNeverAnimates := by
  intro s t hs h
  obtain rfl | ⟨u, hu, rfl⟩ | ⟨d1, d2, d3, d4, rfl⟩ := step_operation_cases h
  · intro _
    simp
  · have hu := exec_phase_panelStill hs hu
    exact hu
  · exact hs

/-! ## The delay counter -/

/-- The length `T` of the delay that a phase is, and 1 for a phase that is none, whose `DLY` is 0 (10_state.md R14). -/
def delayTicks (p : Params) : Phase → Nat
  | .dbLead | .dbTrail => p.settleTicks
  | .flkPause => p.flickerTicks
  | .brtStep => p.breatheTicks
  | _ => 1

theorem delayTicks_valid {p : Params} (hp : p.Valid) (q : Phase) : ValidTicks (delayTicks p q) := by
  obtain ⟨hs, hf, hb⟩ := hp
  cases q
  case dbLead | dbTrail => exact hs
  case flkPause => exact hf
  case brtStep => exact hb
  all_goals exact ⟨Nat.le_refl 1, Nat.one_lt_two_pow (by decide)⟩

/-- The invariant of R14 as one bound. -/
theorem delayInRange_iff (s : State) : DelayInRange s ↔ s.dly.toNat < delayTicks s.params s.ph := by
  have hz : s.dly = 0 ↔ s.dly.toNat < 1 := by
    rw [Nat.lt_one_iff]
    exact BitVec.toNat_inj.symm
  unfold DelayInRange
  rw [hz]
  cases hp : s.ph <;> simp [delayTicks]

/-- What the operation of `PH` does with `DLY`: it counts and stays, it loads the delay it enters, or it leaves `DLY` alone,
having stayed, or left a delay that is over, or come from no delay. -/
theorem exec_phase_dly {s u : State} (h : exec s.ph.instr s = .next u) :
    (u.ph = s.ph ∧ s.dly ≠ 0 ∧ u.dly = s.dly - 1) ∨
    u.dly = BitVec.ofNat 32 (delayTicks s.params u.ph - 1) ∨
    (u.dly = s.dly ∧ (u.ph = s.ph ∨ s.dly = 0 ∨ delayTicks s.params s.ph = 1)) := by
  cases hp : s.ph <;> rw [hp] at h
  case render =>
    obtain ⟨-, hd⟩ | ⟨hph, -, -, hd⟩ | ⟨hph, -, -, hd⟩ := execRender_phase h
    · exact .inr (.inr ⟨hd, .inr (.inr rfl)⟩)
    · exact .inr (.inl (by rw [hph]; exact hd))
    · exact .inr (.inl (by rw [hph]; exact hd))
  case brtStep =>
    obtain ⟨hd, rfl⟩ | ⟨hd, -, rfl⟩ | ⟨-, -, rfl⟩ := exec_brtStep_cases h
    · exact .inl ⟨hp, hd, rfl⟩
    · exact .inr (.inr ⟨rfl, .inr (.inl hd)⟩)
    · exact .inr (.inl (by rw [show (nextSweepStep s).ph = .brtStep from hp]; rfl))
  case dbLead | dbTrail | flkPause =>
    cases h
    obtain ⟨hd, he⟩ | ⟨hd, he⟩ := s.delayTick_cases _ <;> rw [he]
    · exact .inl ⟨hp, hd, rfl⟩
    · exact .inr (.inr ⟨rfl, .inr (.inl hd)⟩)
  case poll =>
    cases h
    split
    · exact .inr (.inr ⟨rfl, .inr (.inr rfl)⟩)
    · exact .inr (.inl rfl)
  case dbHold =>
    cases h
    split
    · exact .inr (.inl rfl)
    · exact .inr (.inr ⟨rfl, .inr (.inr rfl)⟩)
  case bootInit | persist =>
    cases h
    split <;> exact .inr (.inr ⟨rfl, .inr (.inr rfl)⟩)
  all_goals
    cases h
    exact .inr (.inr ⟨rfl, .inr (.inr rfl)⟩)

theorem exec_phase_delayInRange {s u : State} (hv : s.params.Valid) (hs : DelayInRange s)
    (h : exec s.ph.instr s = .next u) : DelayInRange u := by
  rw [delayInRange_iff] at hs ⊢
  rw [(exec_frame h).params]
  have hT := delayTicks_valid hv u.ph
  obtain ⟨hp, hd, hu⟩ | hu | ⟨hu, hk⟩ := exec_phase_dly h <;> rw [hu]
  · rw [hp]
    have := dly_pred_toNat hd
    omega
  · rw [loadDelay_toNat hT]
    omega
  · obtain hp | hd | h1 := hk
    · rwa [hp]
    · rw [hd]
      exact hT.1
    · omega

/-- Settles O48: a delay is entered with `DLY = T - 1` and counted down from there; it is left, and a phase that is no delay is
run, with `DLY = 0`. -/
theorem delayCounterStaysInRange : Obligations.DelayCounterStaysInRange := by
  intro s t hv hs h
  obtain rfl | ⟨u, hu, rfl⟩ | ⟨d1, d2, d3, d4, rfl⟩ := step_operation_cases h
  · rw [delayInRange_iff]
    exact Nat.zero_lt_one
  · have hu := exec_phase_delayInRange hv hs hu
    exact hu
  · exact hs

/-- Settles O23, by induction on the count: with `DLY = 0` the phase is left, and else one tick takes the count to the next
smaller one. -/
theorem delayLastsExactlyItsTicks : Obligations.DelayLastsExactlyItsTicks := by
  intro s k q hm hq hk hr
  induction k generalizing s with
  | zero =>
    have hd : s.dly = 0 := BitVec.eq_of_toNat_eq hk
    have he := (exec_plainDelay hq s).trans (congrArg _ (State.delayTick_zero hd _))
    refine ⟨fun j hj => ⟨s, ?_, rfl, by omega⟩, _, after_succ (step_phase hm hr.head he) (after_zero _), rfl, hd⟩
    rw [Nat.le_zero.1 hj]
    exact after_zero s
  | succ k ih =>
    have hd : s.dly ≠ 0 := by
      rintro h
      simp [h] at hk
    have he := (exec_plainDelay hq s).trans (congrArg _ (State.delayTick_pos hd _))
    have hs := step_phase hm hr.head he
    have hk' : (s.dly - 1).toNat = k := by
      have := dly_pred_toNat hd
      omega
    obtain ⟨hstay, u, hu, hleft⟩ := ih (s.endTick (s.setDly (s.dly - 1))) rfl hq hk' (hr.endTick _)
    refine ⟨fun j hj => ?_, u, after_succ hs hu, hleft⟩
    cases j with
    | zero => exact ⟨s, after_zero s, rfl, hk⟩
    | succ j =>
      obtain ⟨v, hv, hp, hc⟩ := hstay j (Nat.le_of_succ_le_succ hj)
      exact ⟨v, after_succ hs hv, hp, by omega⟩

/-! ## The sweep -/

theorem breatheDuty_toNat {i : Nat} (h : i ≤ 254) : (breatheDuty i).toNat = sweepDuty i := by
  unfold breatheDuty sweepDuty Config.breatheMax Config.sweepLast
  split
  · simp only [BitVec.toNat_ofNat]
    omega
  · simp only [BitVec.toNat_ofNat]
    omega

/-- What a channel gets from the command of a breathe step: its duty on the channel the index names, else 0. -/
theorem muxOut_animSel (d : Duty) (c : BitVec 2) (k : Selector) :
    (muxOut d (animSel c) k).toNat = if k.toNat = c.toNat + 1 then d.toNat else 0 := by
  have hc := animSel_toNat c
  have hlt := c.isLt
  obtain ⟨h, h0 | h5 | hk⟩ | ⟨h, -, -, hk⟩ := muxOut_cases d (animSel c) k <;> rw [h]
  · simp [h0] at hc
  · omega
  · rw [← hk, if_pos hc]
  · rw [if_neg fun e => hk (BitVec.eq_of_toNat_eq (hc.trans e.symm))]
    rfl

/-- The command of a breathe step shows that step (43_mode_fsm.md R89, R90). -/
theorem setch_showsSweep (s : State) (c : BitVec 2) {i : Nat} (hi : i ≤ 254) :
    ShowsSweep (s.setch (breatheDuty i) (animSel c)) c.toNat i := by
  have h := muxOut_animSel (breatheDuty i) c
  rw [breatheDuty_toNat hi] at h
  refine ⟨(h 1).trans ?_, (h 2).trans ?_, (h 3).trans ?_, (h 4).trans ?_⟩ <;>
    exact if_congr (by simp) rfl rfl

/-- The state after the render that starts a sweep shows its first step (43_mode_fsm.md R89). -/
theorem exec_render_sweepShown {s u : State} (hv : s.params.variant = .demo) (hm : s.mode = 2)
    (h : exec .render s = .next u) :
    u.params.variant = .demo ∧ u.mode = 2 ∧ ShowsSweep u u.animCh.toNat u.animPos.toNat := by
  cases (execRender_breathe hv hm).symm.trans h
  exact ⟨hv, hm, setch_showsSweep s s.animCh (Nat.zero_le 254)⟩

/-- The next step of a sweep is shown, and is a step of a sweep (43_mode_fsm.md R90 c). -/
theorem nextSweepStep_sweepShown {s : State} (hp : s.animPos.toNat ≤ 254) (hl : s.animPos ≠ 254) :
    (nextSweepStep s).animPos.toNat = s.animPos.toNat + 1 ∧ s.animPos.toNat + 1 ≤ 254 ∧
    ShowsSweep (nextSweepStep s) s.animCh.toNat (nextSweepStep s).animPos.toNat := by
  have hl' : s.animPos.toNat ≠ 254 := fun e => hl ((animPos_eq_last _).2 e)
  have hn : (nextSweepStep s).animPos.toNat = s.animPos.toNat + 1 := nextPos_toNat hp
  refine ⟨hn, by omega, ?_⟩
  rw [hn]
  exact setch_showsSweep s s.animCh (by omega)

/-- The operation of `PH` keeps `ANIM_POS` at a position of a sweep. -/
theorem exec_phase_animPos {s u : State} (hp : s.animPos.toNat ≤ 254) (h : exec s.ph.instr s = .next u) :
    u.animPos.toNat ≤ 254 := by
  by_cases hi : s.ph.instr = .brtStep
  · rw [hi] at h
    obtain ⟨-, rfl⟩ | ⟨-, -, rfl⟩ | ⟨-, hl, rfl⟩ := exec_brtStep_cases h
    · exact hp
    · exact Nat.zero_le 254
    · obtain ⟨hn, hle, -⟩ := nextSweepStep_sweepShown hp hl
      rwa [hn]
  · obtain ⟨-, hk | hz⟩ := exec_cursor_kept_or_cleared hi h
    · rwa [hk]
    · rw [hz]
      exact Nat.zero_le 254

/-- Where the operation of `PH` leaves a sweep running, its step is shown. -/
theorem exec_phase_showsSweep {s u : State} (hs : SweepShown s) (h : exec s.ph.instr s = .next u) (hu : u.ph = .brtStep) :
    u.params.variant = .demo ∧ u.mode = 2 ∧ ShowsSweep u u.animCh.toNat u.animPos.toNat := by
  obtain ⟨-, hp, hshow⟩ := hs
  obtain ⟨hb, hgo⟩ | ⟨hr, hv, hm⟩ := graphNext_eq_brtStep ((exec_phase_ph h).symm.trans hu)
  · obtain ⟨hv, hm, hd⟩ := hshow hb
    rw [hb] at h
    obtain ⟨-, rfl⟩ | ⟨hz, hl, -⟩ | ⟨-, hl, rfl⟩ := exec_brtStep_cases h
    · exact ⟨hv, hm, hd⟩
    · exact absurd ⟨hz, hl⟩ hgo
    · obtain ⟨-, -, hd⟩ := nextSweepStep_sweepShown hp hl
      exact ⟨hv, hm, hd⟩
  · rw [hr] at h
    exact exec_render_sweepShown hv hm h

/-- Settles O51: a sweep is entered from `RENDER` at its first step, and every tick of it counts, ends it, or shows the next
step on the same channel. -/
theorem sweepStaysOnTheLights : Obligations.SweepStaysOnTheLights := by
  intro s t hs h
  have ⟨hm, hp, _⟩ := hs
  obtain ⟨-, rfl⟩ | ⟨-, u, hu, rfl⟩ := step_phase_cases hm h
  · simp [SweepShown]
  · have hshow := exec_phase_showsSweep hs hu
    have hpos := exec_phase_animPos hp hu
    exact ⟨rfl, hpos, hshow⟩

/-! ## A whole sweep -/

/-- `u` is `j` ticks into the sweep that the render at `s` starts: step `ANIM_POS`, with `DLY` ticks of it to come after this
one (43_mode_fsm.md R88 to R90, 10_state.md R14). -/
structure SweepTick (s : State) (j : Nat) (u : State) : Prop where
  ph : u.ph = .brtStep
  animCh : u.animCh = s.animCh
  params : u.params = s.params
  shown : SweepShown u
  dly_lt : u.dly.toNat < s.params.breatheTicks
  position : u.animPos.toNat * s.params.breatheTicks + s.params.breatheTicks = j + u.dly.toNat + 1
  inputAt : ∀ i, u.inputAt i = s.inputAt (1 + j + i)

/-- The step of the sweep that tick `j` belongs to. -/
theorem SweepTick.animPos_eq {s u : State} {j : Nat} (h : SweepTick s j u) : u.animPos.toNat = j / s.params.breatheTicks := by
  have hd := h.dly_lt
  have hp := h.position
  refine (Nat.div_eq_of_lt_le (by omega) ?_).symm
  rw [Nat.add_one_mul u.animPos.toNat]
  omega

theorem SweepTick.rstN {s u : State} {j : Nat} (h : SweepTick s j u) (hr : NoReset s (1 + 255 * s.params.breatheTicks))
    (hj : j < 255 * s.params.breatheTicks) : u.input.rstN = true := by
  rw [← State.inputAt_zero, h.inputAt]
  exact hr _ (by omega)

/-- The render starts the sweep at its tick 0. -/
theorem sweepTick_first {s : State} (hp : s.ph = .render) (hm : s.muxIn = none) (hv : s.params.variant = .demo)
    (hmode : s.mode = 2) (hT : s.params.Valid) (hr : s.input.rstN = true) : ∃ u, After 1 s u ∧ SweepTick s 0 u := by
  obtain ⟨-, -, hB⟩ := hT
  have he : exec s.ph.instr s = execRenderBreathe s := hp ▸ execRender_breathe hv hmode
  have hd := loadDelay_toNat hB
  refine ⟨_, after_succ (step_phase hm hr he) (after_zero _), rfl, rfl, rfl, ⟨rfl, Nat.zero_le 254, fun _ => ?_⟩, ?_, ?_,
    fun i => ?_⟩
  · exact ⟨hv, hmode, setch_showsSweep s s.animCh (Nat.zero_le 254)⟩
  · show (BitVec.ofNat 32 (s.params.breatheTicks - 1)).toNat < _
    omega
  · show 0 * s.params.breatheTicks + _ = 0 + (BitVec.ofNat 32 (s.params.breatheTicks - 1)).toNat + 1
    omega
  · rw [State.endTick_inputAt, Nat.add_zero, Nat.add_comm]

/-- Within the 255 steps, a tick of the sweep is followed by the next one. -/
theorem SweepTick.next {s u : State} {j : Nat} (h : SweepTick s j u) (hT : s.params.Valid)
    (hj : j + 1 < 255 * s.params.breatheTicks) (hr : u.input.rstN = true) :
    ∃ v, step u = .next v ∧ SweepTick s (j + 1) v := by
  obtain ⟨hph, hc, hpar, hshow, hd, hpos, hin⟩ := h
  obtain ⟨-, -, hB⟩ := hT
  have ⟨hm, hle, _⟩ := hshow
  have hin' : ∀ w i, (u.endTick w).inputAt i = s.inputAt (1 + (j + 1) + i) := fun w i => by
    rw [State.endTick_inputAt, hin]
    exact congrArg _ (by omega)
  have he : exec u.ph.instr u = execBrtStep u := by rw [hph]; rfl
  have hs := step_phase hm hr he
  refine ⟨_, hs, ?_⟩
  have hshow' := sweepStaysOnTheLights u _ hshow hs
  obtain ⟨hz, hu⟩ | ⟨hz, hl, hu⟩ | ⟨hz, hl, hu⟩ := exec_brtStep_cases (s := u) rfl <;> rw [hu] at hshow' ⊢
  · obtain ⟨hpred, h1⟩ := dly_pred_toNat hz
    refine ⟨hph, hc, hpar, hshow', ?_, ?_, hin' _⟩
    · show (u.dly - 1).toNat < _
      omega
    · show _ = j + 1 + (u.dly - 1).toNat + 1
      exact hpos.trans (by omega)
  · rw [hl, hz] at hpos
    replace hpos : 254 * s.params.breatheTicks + s.params.breatheTicks = j + 0 + 1 := hpos
    omega
  · obtain ⟨hn, -, -⟩ := nextSweepStep_sweepShown hle hl
    have hload : (nextSweepStep u).dly.toNat = s.params.breatheTicks - 1 := by
      rw [← hpar] at hB ⊢
      exact loadDelay_toNat hB
    refine ⟨hph, hc, hpar, hshow', ?_, ?_, hin' _⟩
    · exact hload.trans_lt (by omega)
    · show (nextSweepStep u).animPos.toNat * _ + _ = j + 1 + (nextSweepStep u).dly.toNat + 1
      replace hpos : _ = j + 0 + 1 := hz ▸ hpos
      rw [hload, hn, Nat.add_one_mul u.animPos.toNat]
      omega

/-- Every one of the `255 * B` ticks after the render is a tick of the sweep, by induction on the tick. -/
theorem sweep_runs {s : State} (hp : s.ph = .render) (hm : s.muxIn = none) (hv : s.params.variant = .demo)
    (hmode : s.mode = 2) (hT : s.params.Valid) (hr : NoReset s (1 + 255 * s.params.breatheTicks)) {j : Nat}
    (hj : j < 255 * s.params.breatheTicks) : ∃ u, After (1 + j) s u ∧ SweepTick s j u := by
  induction j with
  | zero => exact sweepTick_first hp hm hv hmode hT (s.inputAt_zero ▸ hr 0 (by omega))
  | succ j ih =>
    obtain ⟨u, hu, hsw⟩ := ih (by omega)
    obtain ⟨v, hv, hsw'⟩ := hsw.next hT hj (hsw.rstN hr (by omega))
    exact ⟨v, after_snoc hu hv, hsw'⟩

/-- The last tick of a sweep ends it. -/
theorem SweepTick.last {s u : State} {j : Nat} (h : SweepTick s j u) (hj : j + 1 = 255 * s.params.breatheTicks)
    (hr : u.input.rstN = true) : step u = .next (u.endTick (endSweep u)) := by
  obtain ⟨hph, -, -, ⟨hm, hle, -⟩, hd, hpos, -⟩ := h
  have hlt : 254 * s.params.breatheTicks < (u.animPos.toNat + 1) * s.params.breatheTicks := by
    rw [Nat.add_one_mul u.animPos.toNat]
    omega
  have hlast : u.animPos.toNat = 254 := by
    have := Nat.lt_of_mul_lt_mul_right hlt
    omega
  have hz : u.dly = 0 := BitVec.eq_of_toNat_eq (by rw [hlast] at hpos; show _ = 0; omega)
  have he : exec u.ph.instr u = execBrtStep u := by rw [hph]; rfl
  refine step_phase hm hr (he.trans ?_)
  obtain ⟨hz', -⟩ | ⟨-, -, hu⟩ | ⟨-, hl, -⟩ := exec_brtStep_cases (s := u) rfl
  · exact absurd hz hz'
  · exact congrArg _ hu
  · exact absurd ((animPos_eq_last _).2 hlast) hl

/-- Settles O40: each of the `255 * B` ticks is the one of its step, and the last one ends the sweep. -/
theorem breatheSweepLasts255Steps : Obligations.BreatheSweepLasts255Steps := by
  intro s hp hm hv hmode hT hr
  have hrun := @sweep_runs s hp hm hv hmode hT hr
  refine ⟨fun j hj => ?_, ?_⟩
  · obtain ⟨u, hu, hsw⟩ := hrun hj
    obtain ⟨-, -, hshow⟩ := hsw.shown
    obtain ⟨-, -, hd⟩ := hshow hsw.ph
    rw [hsw.animCh, hsw.animPos_eq] at hd
    exact ⟨u, hu, hsw.ph, hsw.animCh, hsw.animPos_eq, hd⟩
  · obtain ⟨-, -, hB⟩ := hT
    obtain ⟨u, hu, hsw⟩ := hrun (j := 255 * s.params.breatheTicks - 1) (by omega)
    have hs := hsw.last (by omega) (hsw.rstN hr (by omega))
    obtain ⟨-, -, hshow⟩ := hsw.shown
    obtain ⟨-, hmode', -⟩ := hshow hsw.ph
    refine ⟨u.endTick (endSweep u), ?_, rfl, hmode', rfl, ?_⟩
    · rw [show 1 + 255 * s.params.breatheTicks = 1 + (255 * s.params.breatheTicks - 1) + 1 by omega]
      exact after_snoc hu hs
    · show (u.animCh + 1).toNat = _
      rw [hsw.animCh, BitVec.toNat_add]
      rfl

/-! ## The inputs of a tick -/

/-- `s` about to sample `x`. -/
def State.feed (x : Inputs) (rest : List Inputs) (s : State) : State := { s with stimulus := x :: rest }

@[simp] theorem State.feed_input (x : Inputs) (rest : List Inputs) (s : State) : (s.feed x rest).input = x := rfl

/-- `x` and `y` agree on the inputs that the phase of `s` looks at (10_state.md R18). -/
structure SampledAlike (s : State) (x y : Inputs) : Prop where
  initDone : s.ph = .bootInit → x.initDone = y.initDone
  nvDone : s.ph = .persist → x.nvDone = y.nvDone
  draws : s.ph = .render → s.params.variant = .demo → s.mode = 1 → x.rndDuty = y.rndDuty ∧ x.rndSel = y.rndSel

/-- Every operation completes (44_main_loop.md R101). -/
theorem exec_completes (i : Instr) (s : State) : ∃ u, exec i s = .next u := by
  cases i
  case render =>
    rw [exec_render_eq]
    cases decodeRender s.params.variant s.mode <;> exact ⟨_, rfl⟩
  all_goals exact ⟨_, rfl⟩

theorem State.feed_delayTick (x : Inputs) (rest : List Inputs) (q : Phase) (s : State) :
    (s.feed x rest).delayTick (State.goto q) = (s.delayTick (State.goto q)).feed x rest :=
  (apply_ite (State.feed x rest) (s.dly = 0) (s.goto q) (s.setDly (s.dly - 1))).symm

/-- `RENDER` samples the two draws in mode 1 of the demo variant and no input else (43_mode_fsm.md R86). -/
theorem execRender_feed {s u : State} {x : Inputs} (rest : List Inputs)
    (hx : s.params.variant = .demo → s.mode = 1 → s.input.rndDuty = x.rndDuty ∧ s.input.rndSel = x.rndSel)
    (h : exec .render s = .next u) : exec .render (s.feed x rest) = .next (u.feed x rest) := by
  have hf := decodeRender_eq_flicker s.params.variant s.mode
  rw [exec_render_eq] at h ⊢
  show exec ((decodeRender s.params.variant s.mode).instr s.mode) (s.feed x rest) = _
  cases hd : decodeRender s.params.variant s.mode <;> rw [hd] at hf h
  case flicker =>
    obtain ⟨hv, hm⟩ := hf.1 rfl
    obtain ⟨hduty, hsel⟩ := hx hv hm
    cases h
    rw [flickerDuty, flickerSel, hduty, hsel]
    rfl
  all_goals
    cases h
    rfl

/-- The operation of `PH` does the same on inputs that agree with those of the tick on what the phase samples. -/
theorem exec_phase_feed {s u : State} {x : Inputs} (rest : List Inputs) (hx : SampledAlike s s.input x)
    (h : exec s.ph.instr s = .next u) : exec s.ph.instr (s.feed x rest) = .next (u.feed x rest) := by
  obtain ⟨hi, hn, hd⟩ := hx
  cases hp : s.ph <;> rw [hp] at h
  case render => exact execRender_feed rest (hd hp) h
  case bootInit =>
    cases h
    rw [hi hp, apply_ite (State.feed x rest)]
    rfl
  case persist =>
    cases h
    rw [hn hp, apply_ite (State.feed x rest)]
    rfl
  case poll | dbHold =>
    cases h
    rw [apply_ite (State.feed x rest)]
    rfl
  case brtStep =>
    cases h
    unfold State.delayTick
    rw [apply_ite (State.feed x rest), apply_ite (State.feed x rest)]
    rfl
  case dbLead | dbTrail | flkPause =>
    cases h
    exact congrArg _ (s.feed_delayTick x rest _)
  all_goals
    cases h
    rfl

/-- The tick does the same on inputs that agree with its own on what is sampled: `btn_n`, and what the phase looks at. -/
theorem step_feed {s : State} {x : Inputs} (hs : s.input.rstN = true) (hr : x.rstN = true) (hb : s.input.btnN = x.btnN)
    (hx : SampledAlike s s.input x) : step (s.feed x s.stimulus.tail) = step s := by
  obtain ⟨u, hu⟩ := exec_completes s.fetch s
  have hf : exec s.fetch (s.feed x s.stimulus.tail) = .next (u.feed x s.stimulus.tail) := by
    cases hm : s.muxIn with
    | none =>
      rw [State.fetch_none hm] at hu ⊢
      exact exec_phase_feed _ hx hu
    | some w =>
      obtain ⟨d1, d2, d3, d4, hd⟩ := fetch_command hm
      cases (hd s).symm.trans hu
      exact hd _
  rw [step_run hs hu, step_run (by rwa [State.feed_input]) hf]
  unfold State.endTick
  rw [hb]
  rfl

/-- Settles O14: each operation does the same on two input vectors that agree on what it samples, the synchronizer samples
`btn_n` alone, and the tick drops the vector. -/
theorem onlySampledInputsMatter : Obligations.OnlySampledInputsMatter := by
  intro s x y rest hx hy hb hi hn hd
  exact (step_feed (s := s.feed x rest) hx hy hb ⟨hi, hn, hd⟩).symm

/-! ## A tick in reset, and what it leaves -/

theorem State.resetTick_nv {s : State} (h : s.ph ≠ .persist) : s.resetTick.nv = s.nv := by
  obtain ⟨hp, -⟩ | ⟨hp, -⟩ | ⟨-, hm⟩ := s.memAfterReset_cases
  · exact absurd hp h
  · exact absurd hp h
  · simp [State.nv, State.readByte, hm]

/-- Settles O10: a tick in reset runs no operation and leaves the state R24 gives. -/
theorem resetTickSetsEveryRegister : Obligations.ResetTickSetsEveryRegister := by
  intro s h
  exact ⟨s.resetTick, step_reset h, rfl, rfl, rfl, rfl, rfl, ⟨rfl, rfl, rfl, rfl⟩, rfl, rfl, rfl⟩

/-- Settles O53: after reset `PH` is `BOOT_INIT`, the counters, `MODE` and the duties are 0, and nothing is stored. -/
theorem invariantsHoldAfterReset : Obligations.InvariantsHoldAfterReset := by
  have hmode : ModeInRange State.reset := by
    show 0 < State.reset.params.variant.modeCount
    cases State.reset.params.variant <;> decide
  have hdly : DelayInRange State.reset := (delayInRange_iff _).2 Nat.zero_lt_one
  have hstill : PanelStill State.reset := fun _ => ⟨by decide, by decide, rfl, rfl⟩
  have hshown : SweepShown State.reset := ⟨rfl, Nat.zero_le 254, fun h => absurd h (by decide)⟩
  exact ⟨hmode, fun h => absurd (.inl rfl) h, hdly, hstill, by decide, hshown, State.reset_mem_wf⟩

/-! ## Boot after a store -/

/-- Boot with the bring-up answering at its first tick: three ticks to the poll, with the clamped byte in `MODE`, the store and
the duty registers as they were (44_main_loop.md R102, R103, 42_store.md R69). -/
theorem boot_loads_store {s : State} (hp : s.ph = .bootInit) (hm : s.muxIn = none) (hr : NoReset s 3)
    (hi : s.input.initDone = true) :
    ∃ u, After 3 s u ∧ u.ph = .poll ∧ u.mode = clampMode s.params.variant s.nv ∧ u.nv = s.nv ∧ SameDuties s u := by
  have he : exec s.ph.instr s = .next (s.goto .bootPwm) := by
    rw [hp]
    exact congrArg _ (if_pos hi)
  have h1 := step_phase hm hr.head he
  have h2 := step_phase (s := s.endTick (s.goto .bootPwm)) rfl (hr.endTick _).head rfl
  have h3 := step_phase (s := (s.endTick (s.goto .bootPwm)).endTick ((s.endTick (s.goto .bootPwm)).goto .bootLoad)) rfl
    ((hr.endTick _).endTick _).head rfl
  exact ⟨_, after_succ h1 (after_succ h2 (after_succ h3 (after_zero _))), rfl, rfl, rfl, rfl, rfl, rfl, rfl⟩

/-- The tick at which `nv_done` completes the store (42_store.md R70, 20_memory.md R27). -/
theorem step_persist_done {s : State} (hp : s.ph = .persist) (hm : s.muxIn = none) (hr : s.input.rstN = true)
    (hd : s.input.nvDone = true) : step s = .next (s.endTick ((s.nvWrite s.mode).goto .render)) := by
  refine step_phase hm hr ?_
  rw [hp]
  exact congrArg _ (if_pos hd)

/-- A tick that does not reset and then one that does: the registers are cleared, and a store that is over survives
(20_memory.md R31 c, 70_reset_and_hazards.md R125). -/
theorem tick_then_reset {s w : State} (hs : step s = .next (s.endTick w)) (hw : w.ph ≠ .persist)
    (hr : (s.inputAt 1).rstN = false) :
    ∃ u, After 2 s u ∧ u.ph = .bootInit ∧ u.muxIn = none ∧ u.params = w.params ∧ u.nv = w.nv ∧ Duties u 0 0 0 0 ∧
      ∀ j, u.inputAt j = s.inputAt (j + 2) := by
  have h2 := step_reset (s := s.endTick w) (by rwa [← State.inputAt_zero, State.endTick_inputAt])
  refine ⟨_, after_succ hs (after_succ h2 (after_zero _)), rfl, rfl, rfl, State.resetTick_nv (s := s.endTick w) hw,
    ⟨rfl, rfl, rfl, rfl⟩, fun j => ?_⟩
  exact (State.inputAt_next (s := s.endTick w) rfl rfl j).trans (s.endTick_inputAt w _)

/-- Settles O57: the reset after the store keeps the byte, and boot loads it, in range as it is. -/
theorem storedModeSurvivesReset : Obligations.StoredModeSurvivesReset := by
  intro s hp hm hrange hr0 hd0 hr1 hr hi
  rw [s.inputAt_zero] at hr0 hd0
  obtain ⟨u, hu, hup, hum, hpar, hnv, ⟨h1, h2, h3, h4⟩, hin⟩ :=
    tick_then_reset (step_persist_done hp hm hr0 hd0) (by simp) hr1
  have hur : NoReset u 3 := fun j hj => by
    rw [hin]
    exact hr (j + 2) (by omega) (by omega)
  obtain ⟨v, hv, hvp, hvm, hvn, d1, d2, d3, d4⟩ := boot_loads_store hup hum hur (by rwa [← u.inputAt_zero, hin])
  simp only [State.goto_params, State.nvWrite_params, State.goto_nv, State.nvWrite_nv] at hpar hnv
  rw [hnv] at hvm hvn
  rw [hpar, clampMode_eq hrange] at hvm
  exact ⟨v, after_add hu hv, hvp, hvm, hvn, by rw [d1, h1], by rw [d2, h2], by rw [d3, h3], by rw [d4, h4]⟩

/-! ## The output ports -/

/-- Settles O15: the four one-bit requests and `press` compare `PH` with one phase each, and the other ports are registers or
parameters. -/
theorem outputPortsFollowState : Obligations.OutputPortsFollowState := by
  intro s
  have hport : ∀ p : Phase, (s.ph == p) = true ↔ s.ph = p := fun p => beq_iff_eq
  exact ⟨hport _, hport _, hport _, hport _, rfl, rfl, rfl, rfl, rfl, rfl, hport _⟩

/-! ## The plain delay phases -/

/-- Settles O21: the three phases are the delay protocol with their one successor. -/
theorem delayPhaseResults : Obligations.DelayPhaseResults := by
  refine ⟨⟨fun v => rfl, fun v => rfl, fun v => rfl⟩, fun s => ⟨fun hd => ?_, fun hd => ?_⟩⟩
  · have hcount : ∀ {p q : Phase}, PlainDelay p q → exec p.instr s = .next { s with dly := s.dly - 1 } := fun h =>
      (exec_plainDelay h s).trans (congrArg _ (State.delayTick_pos hd _))
    exact ⟨hcount (.inl ⟨rfl, rfl⟩), hcount (.inr (.inl ⟨rfl, rfl⟩)), hcount (.inr (.inr ⟨rfl, rfl⟩))⟩
  · have hleave : ∀ {p q : Phase}, PlainDelay p q → exec p.instr s = .next { s with ph := q } := fun h =>
      (exec_plainDelay h s).trans (congrArg _ (State.delayTick_zero hd _))
    exact ⟨hleave (.inl ⟨rfl, rfl⟩), hleave (.inr (.inl ⟨rfl, rfl⟩)), hleave (.inr (.inr ⟨rfl, rfl⟩))⟩

/-! ## The phase codes -/

theorem Phase.ofCode_eq_none (c : BitVec 4) : Phase.ofCode c = none ↔ 12 ≤ c.toNat := by
  revert c
  decide

/-- Settles O4: the formats `M`, `S` and `T` decode every word, and format `PH` every code that is a phase. -/
theorem decoderRefusesReservedCodesOnly : Obligations.DecoderRefusesReservedCodesOnly := by
  intro v w e
  cases w with
  | ph c =>
    have hc := Phase.ofCode_eq_none c
    cases ho : Phase.ofCode c with
    | some p =>
      have hlt : ¬ 12 ≤ c.toNat := by simp [← hc, ho]
      simp [decode, ho, hlt]
    | none => simp [decode, ho, hc.1 ho, eq_comm]
  | m b => simp [decode]
  | s b => simp [decode]
  | t b => simp [decode]

end Sys2Proof.Machine
end

section
/-! PROOFS. 20_memory.md: who writes the persistent byte storage, and what a reset leaves in it. -/

namespace Sys2Proof.Machine

/-! ## The storage from one state to another -/

theorem sameStore_of_mem_eq {s t : State} (h : t.mem = s.mem) : SameStore s t := fun a => by
  rw [State.readByte, h, ← State.readByte]

/-- A write of `NV` is read back there and nowhere else (20_memory.md R25, R27). -/
theorem readByte_of_mem_eq_write {s t : State} {v : Byte} (hm : t.mem = s.mem.write s.params.nvAddr v) :
    t.readByte s.params.nvAddr = v ∧ ∀ a, a ≠ s.params.nvAddr → t.readByte a = s.readByte a := by
  have hw : SameStore (s.nvWrite v) t := sameStore_of_mem_eq hm
  exact ⟨(hw _).trans (s.nvWrite_nv v), fun a ha => (hw a).trans (s.nvWrite_readByte_other v ha)⟩

/-! ## The operations -/

theorem State.delayTick_mem {s : State} {exit : State → State} (he : (exit s).mem = s.mem) :
    (s.delayTick exit).mem = s.mem := by
  obtain ⟨-, h⟩ | ⟨-, h⟩ := s.delayTick_cases exit <;> rw [h]
  · rfl
  · exact he

/-- None of the fifteen operations `RENDER` can select writes the storage: `OFF` and `RECOVER` change `MODE` without a store
(43_mode_fsm.md R75, R84). -/
theorem exec_renderOp_mem {op : RenderOp} {m : Byte} {s t : State} (h : exec (op.instr m) s = .next t) :
    t.mem = s.mem := by
  cases op <;> cases h <;> rfl

/-- What an operation does with the storage: nothing, or it is `PERSIST` at the tick of its `nv_done` (42_store.md R70). -/
theorem exec_mem_cases {i : Instr} {s t : State} (h : exec i s = .next t) :
    t.mem = s.mem ∨ (i = .persist ∧ s.input.nvDone = true ∧ t.mem = s.mem.write s.params.nvAddr s.mode) := by
  cases i
  case persist =>
    cases h
    split
    · exact .inr ⟨rfl, ‹_›, rfl⟩
    · exact .inl rfl
  case render => exact .inl (exec_renderOp_mem ((exec_render_eq s).symm.trans h))
  case bootInit | poll | dbHold =>
    cases h
    split <;> exact .inl rfl
  case dbLead | dbTrail | flkPause =>
    cases h
    exact .inl (State.delayTick_mem rfl)
  case brtStep =>
    obtain ⟨-, rfl⟩ | ⟨-, -, rfl⟩ | ⟨-, -, rfl⟩ := exec_brtStep_cases h <;> exact .inl rfl
  all_goals
    cases h
    exact .inl rfl

/-- Settles O28: the storage is left alone, or it is the one write of `PERSIST`, at `NV_ADDR`. -/
theorem onlyPersistTouchesTheStore : Obligations.OnlyPersistTouchesTheStore := by
  intro i s t h
  obtain hm | ⟨rfl, -, hm⟩ := exec_mem_cases h
  · have hsame := sameStore_of_mem_eq hm
    exact ⟨fun _ => hsame, fun a _ => hsame a⟩
  · obtain ⟨-, hother⟩ := readByte_of_mem_eq_write hm
    exact ⟨fun hi => absurd rfl hi, hother⟩

/-! ## A tick in reset -/

/-- Settles O11: a reset writes nothing of its own; the write in flight is completed by `nv_done`, and else cut off
(20_memory.md R27, R31, 70_reset_and_hazards.md R125). -/
theorem resetKeepsStoreUnlessWriteInFlight : Obligations.ResetKeepsStoreUnlessWriteInFlight := by
  intro s t hr h
  cases (step_reset hr).symm.trans h
  obtain ⟨hp, hd, hm⟩ | ⟨hp, hd, hm⟩ | ⟨hp, hm⟩ := s.memAfterReset_cases
  · obtain ⟨hnv, hother⟩ := readByte_of_mem_eq_write (t := s.resetTick) hm
    exact ⟨hother, fun hn => absurd hp hn, fun _ _ => hnv, fun _ hd' => absurd (hd.symm.trans hd') (by decide)⟩
  · obtain ⟨hnv, hother⟩ := readByte_of_mem_eq_write (t := s.resetTick) hm
    exact ⟨hother, fun hn => absurd hp hn, fun _ hd' => absurd (hd.symm.trans hd') (by decide), fun _ _ => hnv⟩
  · have hsame : SameStore s s.resetTick := sameStore_of_mem_eq hm
    exact ⟨fun a _ => hsame a, State.resetTick_nv, fun hp' => absurd hp' hp, fun hp' => absurd hp' hp⟩

end Sys2Proof.Machine
end

section
/-! PROOFS. 30_encoding.md: decoder and encoder undo each other, and every word that decodes has one row of the operation map. -/

namespace Sys2Proof

open Machine (Phase.ofCode_code Phase.ofCode_eq_none decoderRefusesReservedCodesOnly)

/-! ## Format PH -/

/-- A phase code is the code of the phase it is read as (30_encoding.md R38). -/
theorem Phase.code_of_ofCode {c : BitVec 4} {p : Phase} (h : Phase.ofCode c = some p) : p.code = c := by
  revert c
  cases p <;> decide

theorem decode_phase_code (v : Variant) (p : Phase) : decode v (.ph p.code) = .ok p.instr := by
  simp [decode, Phase.ofCode_code]

theorem encode_phase_instr (p : Phase) : encode p.instr = .ph p.code := by
  cases p <;> rfl

theorem wellFormed_phase_instr (v : Variant) (p : Phase) : p.instr.wellFormed v = true := by
  cases p <;> rfl

/-! ## Format M -/

/-- Below `N` the two maps of 30_encoding.md R39 and R40 give each operation one byte, and `RECOVER` carries its own. -/
theorem encode_decodeRender (v : Variant) (m : Byte) : encode ((decodeRender v m).instr m) = .m m := by
  unfold decodeRender
  split
  case h_15 => rfl
  all_goals
    rename_i hm
    exact congrArg CodeWord.m (BitVec.eq_of_toNat_eq hm).symm

/-- The map of a variant holds operations of that variant only, and `RECOVER` for the bytes from `N` up alone. -/
theorem wellFormed_decodeRender (v : Variant) (m : Byte) : ((decodeRender v m).instr m).wellFormed v = true := by
  by_cases hr : decodeRender v m = .recover
  · rw [hr]
    exact decide_eq_true ((decodeRender_eq_recover v m).1 hr)
  · revert hr
    unfold decodeRender
    split <;> simp [RenderOp.instr, Instr.wellFormed]

/-- Every byte from `N` up selects `RECOVER` (43_mode_fsm.md R84). -/
theorem decode_outOfRange {v : Variant} {m : Byte} (h : v.modeCount ≤ m.toNat) :
    decode v (.m m) = .ok (.renderRecover m) := by
  rw [decode, (decodeRender_eq_recover v m).2 h]
  rfl

/-! ## Format S -/

/-- The `SETCH` command of a selector and a duty, as `decodeSetch` reads it from the two fields of a word (`decode_packSetch`). -/
def setchInstr (c : Selector) (d : Duty) : Instr :=
  match c.toNat with
  | 0 => .setchAll d
  | 1 => .setchCh1 d
  | 2 => .setchCh2 d
  | 3 => .setchCh3 d
  | 4 => .setchCh4 d
  | _ => .setchUnrec c d

/-- The two fields of a format `S` word fill it (30_encoding.md R41). -/
theorem packSetch_fields (w : BitVec 19) : packSetch (selOf w) (dutyOf w) = .s w := by
  have hw : selOf w ++ dutyOf w = w :=
    (BitVec.extractLsb'_append_extractLsb'_eq_extractLsb' rfl).trans BitVec.extractLsb'_eq_self
  exact congrArg CodeWord.s hw

theorem decode_packSetch (v : Variant) (c : Selector) (d : Duty) : decode v (packSetch c d) = .ok (setchInstr c d) := by
  have hw : decodeSetch (c ++ d) = setchInstr (selOf (c ++ d)) (dutyOf (c ++ d)) := rfl
  rw [packSetch, decode, hw, selOf_pack, dutyOf_pack]

theorem setchInstr_unrecognized {c : Selector} (h : 5 ≤ c.toNat) (d : Duty) : setchInstr c d = .setchUnrec c d := by
  unfold setchInstr
  split
  case h_6 => rfl
  all_goals omega

theorem encode_setchInstr (c : Selector) (d : Duty) : encode (setchInstr c d) = packSetch c d := by
  unfold setchInstr
  split
  case h_6 => rfl
  all_goals
    rename_i hc
    exact congrArg (packSetch · d) (BitVec.eq_of_toNat_eq hc).symm

theorem wellFormed_setchInstr (v : Variant) (c : Selector) (d : Duty) : (setchInstr c d).wellFormed v = true := by
  unfold setchInstr
  split
  case h_6 =>
    have hc : 5 ≤ c.toNat := by grind
    exact decide_eq_true hc
  all_goals rfl

/-! ## Format T -/

/-- The four fields of a format `T` word fill it, `t4` uppermost (30_encoding.md R42). -/
theorem encode_decodeSettab (w : BitVec 64) : encode (decodeSettab w) = .t w := by
  have h43 : w.extractLsb' 48 16 ++ w.extractLsb' 32 16 = w.extractLsb' 32 32 :=
    BitVec.extractLsb'_append_extractLsb'_eq_extractLsb' rfl
  have h432 : w.extractLsb' 32 32 ++ w.extractLsb' 16 16 = w.extractLsb' 16 48 :=
    BitVec.extractLsb'_append_extractLsb'_eq_extractLsb' rfl
  have hw : w.extractLsb' 16 48 ++ w.extractLsb' 0 16 = w :=
    (BitVec.extractLsb'_append_extractLsb'_eq_extractLsb' rfl).trans BitVec.extractLsb'_eq_self
  rw [decodeSettab, encode, h43, h432, hw]

theorem decodeSettab_pack (t1 t2 t3 t4 : Duty) : decodeSettab (t4 ++ t3 ++ t2 ++ t1) = .settab t1 t2 t3 t4 := by
  have h1 : (t4 ++ t3 ++ t2 ++ t1).extractLsb' 0 16 = t1 := BitVec.extractLsb'_append_eq_right
  have h2 : (t4 ++ t3 ++ t2 ++ t1).extractLsb' 16 16 = t2 :=
    (BitVec.extractLsb'_append_eq_of_le (by decide)).trans BitVec.extractLsb'_append_eq_right
  have h3 : (t4 ++ t3 ++ t2 ++ t1).extractLsb' 32 16 = t3 :=
    (BitVec.extractLsb'_append_eq_of_le (by decide)).trans
      ((BitVec.extractLsb'_append_eq_of_le (by decide)).trans BitVec.extractLsb'_append_eq_right)
  have h4 : (t4 ++ t3 ++ t2 ++ t1).extractLsb' 48 16 = t4 :=
    (BitVec.extractLsb'_append_eq_of_le (by decide)).trans
      ((BitVec.extractLsb'_append_eq_of_le (by decide)).trans BitVec.extractLsb'_append_eq_left)
  exact congr (congr (congr (congrArg Instr.settab h1) h2) h3) h4

theorem decode_encode_settab (v : Variant) (t1 t2 t3 t4 : Duty) :
    decode v (encode (.settab t1 t2 t3 t4)) = .ok (.settab t1 t2 t3 t4) :=
  congrArg Except.ok (decodeSettab_pack t1 t2 t3 t4)

/-! ## The round trips -/

/-- Settles O2, format by format. -/
theorem decodedWordEncodesBack : Obligations.DecodedWordEncodesBack := by
  intro v w i h
  cases w with
  | ph c =>
    cases hc : Phase.ofCode c with
    | none => simp [decode, hc] at h
    | some p =>
      obtain rfl := Phase.code_of_ofCode hc
      cases (decode_phase_code v p).symm.trans h
      exact ⟨encode_phase_instr p, wellFormed_phase_instr v p⟩
  | m b =>
    cases h
    exact ⟨encode_decodeRender v b, wellFormed_decodeRender v b⟩
  | s b =>
    rw [← packSetch_fields b] at h ⊢
    cases (decode_packSetch v _ _).symm.trans h
    exact ⟨encode_setchInstr _ _, wellFormed_setchInstr v _ _⟩
  | t b =>
    cases h
    exact ⟨encode_decodeSettab b, rfl⟩

/-- Settles O1, by the constructors of the instruction: a phase operation from its code, a render operation from its byte in the
variant that has it, a command from its fields. -/
theorem decodeEncodeRoundTrip : Obligations.DecodeEncodeRoundTrip := by
  intro v i h
  cases i
  case bootInit | bootPwm | bootLoad | poll | dbLead | dbHold | dbTrail | advance | persist | render | flkPause | brtStep => rfl
  case renderOff => rfl
  case renderStatic1 | renderStatic2 | renderStatic3 | renderStatic4 | renderStatic5 | renderStatic6 | renderStatic7 =>
    cases eq_of_beq h
    rfl
  case renderFlicker | renderBreathe | renderSolo1 | renderSolo2 | renderSolo3 | renderSolo4 =>
    cases eq_of_beq h
    rfl
  case renderRecover m => exact decode_outOfRange (of_decide_eq_true h)
  case setchAll d | setchCh1 d | setchCh2 d | setchCh3 d | setchCh4 d => exact decode_packSetch v _ d
  case setchUnrec c d =>
    have hc : 5 ≤ c.toNat := of_decide_eq_true h
    exact (decode_packSetch v c d).trans (congrArg _ (setchInstr_unrecognized hc d))
  case settab t1 t2 t3 t4 => exact decode_encode_settab v t1 t2 t3 t4

/-! ## The operation map -/

/-- The word of a well-formed instruction is selected by the row of its mnemonic alone. -/
theorem tableRow_of_wellFormed (i : Instr) : Laws.TableRow.Statement i := by
  cases i with
  | bootInit => exact Laws.TableRow.bootInit
  | bootPwm => exact Laws.TableRow.bootPwm
  | bootLoad => exact Laws.TableRow.bootLoad
  | poll => exact Laws.TableRow.poll
  | dbLead => exact Laws.TableRow.dbLead
  | dbHold => exact Laws.TableRow.dbHold
  | dbTrail => exact Laws.TableRow.dbTrail
  | advance => exact Laws.TableRow.advance
  | persist => exact Laws.TableRow.persist
  | render => exact Laws.TableRow.render
  | flkPause => exact Laws.TableRow.flkPause
  | brtStep => exact Laws.TableRow.brtStep
  | renderOff => exact Laws.TableRow.renderOff
  | renderStatic1 => exact Laws.TableRow.renderStatic1
  | renderStatic2 => exact Laws.TableRow.renderStatic2
  | renderStatic3 => exact Laws.TableRow.renderStatic3
  | renderStatic4 => exact Laws.TableRow.renderStatic4
  | renderStatic5 => exact Laws.TableRow.renderStatic5
  | renderStatic6 => exact Laws.TableRow.renderStatic6
  | renderStatic7 => exact Laws.TableRow.renderStatic7
  | renderFlicker => exact Laws.TableRow.renderFlicker
  | renderBreathe => exact Laws.TableRow.renderBreathe
  | renderSolo1 => exact Laws.TableRow.renderSolo1
  | renderSolo2 => exact Laws.TableRow.renderSolo2
  | renderSolo3 => exact Laws.TableRow.renderSolo3
  | renderSolo4 => exact Laws.TableRow.renderSolo4
  | renderRecover m => exact Laws.TableRow.renderRecover m
  | setchAll d => exact Laws.TableRow.setchAll d
  | setchCh1 d => exact Laws.TableRow.setchCh1 d
  | setchCh2 d => exact Laws.TableRow.setchCh2 d
  | setchCh3 d => exact Laws.TableRow.setchCh3 d
  | setchCh4 d => exact Laws.TableRow.setchCh4 d
  | setchUnrec c d => exact Laws.TableRow.setchUnrec c d
  | settab t1 t2 t3 t4 => exact Laws.TableRow.settab t1 t2 t3 t4

/-- No row selects a reserved phase code (30_encoding.md R45). -/
theorem rows_of_reserved_code (v : Variant) {c : BitVec 4} (h : 12 ≤ c.toNat) :
    opcodeRows.filter (Row.selects v (.ph c)) = [] := by
  have hp : ∀ c : BitVec 4, 12 ≤ c.toNat → phaseRows.filter (Row.selects v (.ph c)) = [] := by
    cases v <;> decide
  exact (Laws.rows_of_format v _).trans (hp c h)

/-- Settles O3: a word that decodes is the word of a well-formed instruction (O2), which has one row; a word that does not is a
reserved code (O4), which has none. -/
theorem everyWordSelectsOneTableRow : Obligations.EveryWordSelectsOneTableRow := by
  intro v w
  refine ⟨fun i h => ?_, fun e h => ?_⟩
  · obtain ⟨rfl, hwf⟩ := decodedWordEncodesBack v w i h
    exact tableRow_of_wellFormed i v hwf
  · obtain ⟨c, rfl, hc, -⟩ := (decoderRefusesReservedCodesOnly v w e).1 h
    exact rows_of_reserved_code v hc

/-! ## Words of the spec -/

/-- Settles O5: the bytes in range by the two maps, byte 7 of the demo variant as the first out of range, and the commands by
their fields. -/
theorem specWordsDecode : Obligations.SpecWordsDecode :=
  ⟨decode_phase_code .panel .poll, decode_phase_code .demo .brtStep, rfl, rfl, decode_outOfRange (by decide),
    decode_packSetch .panel 2 300, decode_packSetch .panel 6 300, decode_encode_settab .panel 21 18 14 19⟩

end Sys2Proof
end

section
/-! PROOFS. 40_channel_driver.md: what the commands of the multiplexer write, and what the block puts into the four duty
registers. -/

namespace Sys2Proof.Machine

/-! ## The fields of the command words -/

theorem selOf_toNat (w : BitVec 19) : (selOf w).toNat = w.toNat / 2 ^ 16 := by
  rw [selOf, BitVec.extractLsb'_toNat, Nat.shiftRight_eq_div_pow]
  omega

theorem dutyOf_toNat (w : BitVec 19) : (dutyOf w).toNat = w.toNat % 2 ^ 16 := by
  rw [dutyOf, BitVec.extractLsb'_toNat, Nat.shiftRight_zero]

/-- Field `tk` of a format `T` word starts at bit `16 * (k - 1)` (30_encoding.md R42). -/
theorem settabField_toNat (w : BitVec 64) (i : Nat) : (w.extractLsb' i 16).toNat = w.toNat / 2 ^ i % 2 ^ 16 := by
  rw [BitVec.extractLsb'_toNat, Nat.shiftRight_eq_div_pow]

/-! ## The commands -/

/-- Every `SETCH` command is the selection network with its own selector (40_channel_driver.md R49). -/
theorem exec_setchInstr (c : Selector) (d : Duty) (s : State) : exec (setchInstr c d) s = .next (s.setch d c) := by
  unfold setchInstr
  split
  case h_6 => rfl
  all_goals
    rename_i hc
    exact congrArg (fun k => Host.Outcome.next (s.setch d k)) (BitVec.eq_of_toNat_eq hc).symm

/-- `ALL` and an unrecognized selector broadcast (40_channel_driver.md R50, R55). -/
theorem State.setch_broadcast (d : Duty) {c : Selector} (h : c = 0 ∨ 5 ≤ c.toNat) (s : State) :
    s.setch d c = s.setDuties d d d d := by
  have hd : ∀ k, muxOut d c k = d := fun k => if_pos h
  rw [State.setch, hd, hd, hd, hd]

/-- A single-channel selector writes its channel and zeroes the others (40_channel_driver.md R51 to R54). -/
theorem muxOut_single (d : Duty) {c : Selector} (h1 : 1 ≤ c.toNat) (h4 : c.toNat ≤ 4) (k : Selector) :
    (muxOut d c k).toNat = if c.toNat = k.toNat then d.toNat else 0 := by
  obtain ⟨h, rfl | h5 | rfl⟩ | ⟨h, -, -, hk⟩ := muxOut_cases d c k <;> rw [h]
  · exact absurd h1 (by decide)
  · omega
  · exact (if_pos rfl).symm
  · exact (if_neg fun e => hk (BitVec.eq_of_toNat_eq e)).symm

/-- Settles O41: a command is decoded by its selector field (`decode_packSetch`), and the selection network broadcasts or
zeroes the three channels it does not address. -/
theorem setchCommandResults : Obligations.SetchCommandResults := by
  intro d s
  have hword : ∀ c : Selector, Selects (.s (c ++ d)) (setchInstr c d) := fun c v => decode_packSetch v c d
  refine ⟨⟨hword 0, hword 1, hword 2, hword 3, hword 4, fun c hc => ?_⟩, ?_, rfl, rfl, rfl, rfl, fun c hc => ?_⟩
  · rw [← setchInstr_unrecognized hc d]
    exact hword c
  · exact (exec_setchInstr 0 d s).trans (congrArg _ (s.setch_broadcast d (.inl rfl)))
  · exact congrArg _ (s.setch_broadcast d (.inr hc))

/-- Settles O42: the word is decoded by its four fields (`decode_encode_settab`), and each is written to its channel. -/
theorem settabCommandResult : Obligations.SettabCommandResult :=
  fun t1 t2 t3 t4 _ => ⟨fun v => decode_encode_settab v t1 t2 t3 t4, rfl⟩

/-- Settles O43: the duty registers after a command are functions of the fields of its word. -/
theorem commandWordsReadBack : Obligations.CommandWordsReadBack := by
  intro v s
  refine ⟨fun w => ?_, fun w => ?_⟩
  · refine ⟨_, _, packSetch_fields w ▸ decode_packSetch v _ _, exec_setchInstr (selOf w) (dutyOf w) s, ?_, ?_⟩ <;>
      rw [← selOf_toNat, ← dutyOf_toNat]
    · intro hall
      have hc : selOf w = 0 ∨ 5 ≤ (selOf w).toNat := hall.imp_left BitVec.eq_of_toNat_eq
      rw [State.setch_broadcast _ hc]
      exact ⟨rfl, rfl, rfl, rfl⟩
    · rintro ⟨h1, h4⟩
      have hmux := muxOut_single (dutyOf w) h1 h4
      exact ⟨hmux 1, hmux 2, hmux 3, hmux 4⟩
  · have hfield := settabField_toNat w
    refine ⟨_, _, rfl, rfl, (hfield 0).trans ?_, hfield 16, hfield 32, hfield 48⟩
    rw [Nat.pow_zero, Nat.div_one]

/-! ## When the duty registers hold -/

theorem State.delayTick_sameDuties {s : State} {exit : State → State} (he : SameDuties s (exit s)) :
    SameDuties s (s.delayTick exit) := by
  obtain ⟨-, h⟩ | ⟨-, h⟩ := s.delayTick_cases exit <;> rw [h]
  · exact ⟨rfl, rfl, rfl, rfl⟩
  · exact he

/-- In the assembled block a command is issued by `RENDER` and by the tick of `BRT_STEP` that goes to the next step, and by
nothing else (40_channel_driver.md R57). -/
theorem exec_phase_sameDuties_or_command {s u : State} (h : exec s.ph.instr s = .next u) :
    SameDuties s u ∨ s.ph = .render ∨ (s.ph = .brtStep ∧ s.dly = 0 ∧ s.animPos ≠ 254 ∧ u = nextSweepStep s) := by
  cases hp : s.ph <;> rw [hp] at h
  case render => exact .inr (.inl rfl)
  case brtStep =>
    obtain ⟨-, rfl⟩ | ⟨-, -, rfl⟩ | ⟨hd, hl, hu⟩ := exec_brtStep_cases h
    · exact .inl ⟨rfl, rfl, rfl, rfl⟩
    · exact .inl ⟨rfl, rfl, rfl, rfl⟩
    · exact .inr (.inr ⟨rfl, hd, hl, hu⟩)
  case dbLead | dbTrail | flkPause =>
    cases h
    exact .inl (State.delayTick_sameDuties ⟨rfl, rfl, rfl, rfl⟩)
  case bootInit | poll | dbHold | persist =>
    cases h
    split <;> exact .inl ⟨rfl, rfl, rfl, rfl⟩
  all_goals
    cases h
    exact .inl ⟨rfl, rfl, rfl, rfl⟩

/-- Settles O44: the tick is none of those that issue a command. -/
theorem dutiesHoldWithoutACommand : Obligations.DutiesHoldWithoutACommand := by
  intro s t hr hm h hquiet
  obtain ⟨hr', -⟩ | ⟨-, u, hu, rfl⟩ := step_phase_cases hm h
  · exact absurd (hr.symm.trans hr') (by decide)
  · obtain hsame | hrender | ⟨hb, hd, hl, -⟩ := exec_phase_sameDuties_or_command hu
    · exact hsame
    · simp [hrender] at hquiet
    · exact absurd (by simpa [hb, hd] using hquiet) hl

/-! ## The duties the block generates -/

/-- The part of `DutiesLogical` that is about the duty registers (40_channel_driver.md R58). -/
abbrev LogicalDuties (s : State) : Prop :=
  s.duty1.toNat ≤ 4095 ∧ s.duty2.toNat ≤ 4095 ∧ s.duty3.toNat ≤ 4095 ∧ s.duty4.toNat ≤ 4095

theorem zext16_logical (d : LogicalDuty) : (zext16 d).toNat ≤ 4095 := by
  rw [BitVec.toNat_setWidth]
  omega

theorem flickerDuty_logical (i : Inputs) : (flickerDuty i).toNat ≤ 4095 := by
  rw [flickerDuty, Config.flickerDutyRange, BitVec.toNat_ofNat]
  omega

theorem breatheDuty_logical {i : Nat} (h : i ≤ 254) : (breatheDuty i).toNat ≤ 4095 := by
  rw [breatheDuty_toNat h, sweepDuty]
  split <;> omega

/-- A `SETCH` of a logical duty leaves logical duties: each channel gets it or 0. -/
theorem setch_logical {d : Duty} (h : d.toNat ≤ 4095) (c : Selector) (s : State) : LogicalDuties (s.setch d c) := by
  have hmux : ∀ k, (muxOut d c k).toNat ≤ 4095 := fun k => by
    obtain ⟨hk, -⟩ | ⟨hk, -⟩ := muxOut_cases d c k <;> rw [hk]
    · exact h
    · exact Nat.zero_le _
  exact ⟨hmux 1, hmux 2, hmux 3, hmux 4⟩

/-- A row of the duty table leaves logical duties, whichever the row: the parameters are logical (00_scope.md R5). -/
theorem renderRow_logical (r : DutyRow) (s : State) : LogicalDuties (renderRow r s) :=
  ⟨zext16_logical r.ch1, zext16_logical r.ch2, zext16_logical r.ch3, zext16_logical r.ch4⟩

/-- Each of the fifteen operations `RENDER` can select writes logical duties, whatever was in the registers. -/
theorem exec_renderOp_logical {op : RenderOp} {m : Byte} {s u : State} (h : exec (op.instr m) s = .next u) :
    LogicalDuties u := by
  cases op <;> cases h
  case off | recover => exact setch_logical (d := 0) (Nat.zero_le 4095) 0 s
  case flicker => exact setch_logical (flickerDuty_logical s.input) _ s
  case breathe => exact setch_logical (breatheDuty_logical (Nat.zero_le 254)) _ s
  case solo1 | solo2 | solo3 | solo4 => exact setch_logical (zext16_logical s.params.soloDuty) _ s
  all_goals exact renderRow_logical _ s

/-- The next step of a sweep writes a duty of the breathe sequence (43_mode_fsm.md R88). -/
theorem nextSweepStep_logical {s : State} (hp : s.animPos.toNat ≤ 254) (hl : s.animPos ≠ 254) :
    LogicalDuties (nextSweepStep s) := by
  obtain ⟨-, hle, -⟩ := nextSweepStep_sweepShown hp hl
  exact setch_logical (breatheDuty_logical hle) _ s

theorem exec_phase_logicalDuties {s u : State} (hp : s.animPos.toNat ≤ 254) (hs : LogicalDuties s)
    (h : exec s.ph.instr s = .next u) : LogicalDuties u := by
  obtain ⟨h1, h2, h3, h4⟩ | hrender | ⟨-, -, hl, rfl⟩ := exec_phase_sameDuties_or_command h
  · rwa [LogicalDuties, h1, h2, h3, h4]
  · rw [hrender] at h
    exact exec_renderOp_logical ((exec_render_eq s).symm.trans h)
  · exact nextSweepStep_logical hp hl

/-- Settles O50: a duty register is cleared by a reset, held, or written by a command whose duties are logical, the sweep being
at one of its positions. -/
theorem generatedDutiesStayLogical : Obligations.GeneratedDutiesStayLogical := by
  rintro s t ⟨hm, hp, hs⟩ h
  obtain ⟨-, rfl⟩ | ⟨-, u, hu, rfl⟩ := step_phase_cases hm h
  · simp [DutiesLogical]
  · have hpos := exec_phase_animPos hp hu
    have hlog := exec_phase_logicalDuties hp hs hu
    exact ⟨rfl, hpos, hlog⟩

end Sys2Proof.Machine
end

section
/-! PROOFS. 41_button.md: the synchronizer, the operations that test the button level, a button held for ever, and the ticks of
one press. -/

namespace Sys2Proof.Machine

/-! ## What a run keeps, and the inputs it leaves to come -/

theorem step_out_of_reset {s t : State} (hr : s.input.rstN = true) (h : step s = .next t) : ∃ u, t = s.endTick u := by
  obtain ⟨hr', -⟩ | ⟨-, u, -, rfl⟩ := step_cases h
  · exact absurd (hr.symm.trans hr') (by decide)
  · exact ⟨u, rfl⟩

/-- After `k` ticks out of reset the inputs to come, and with them the levels (41_button.md R60), are `k` ticks nearer. -/
theorem after_inputAt_levelAt {k : Nat} {s t : State} (hr : NoReset s k) (h : After k s t) (j : Nat) :
    t.inputAt j = s.inputAt (k + j) ∧ t.levelAt j = s.levelAt (k + j) := by
  induction k generalizing s with
  | zero =>
    cases h
    rw [Nat.zero_add]
    exact ⟨rfl, rfl⟩
  | succ k ih =>
    obtain ⟨u, hs, hu⟩ := after_succ_cases h
    obtain ⟨w, rfl⟩ := step_out_of_reset hr.head hs
    have hih := ih (hr.endTick w) hu
    rwa [State.endTick_inputAt, State.endTick_levelAt, Nat.add_right_comm] at hih

theorem NoReset.after {k n : Nat} {s t : State} (hr : NoReset s (k + n)) (h : After k s t) : NoReset t n := fun j hj => by
  obtain ⟨hin, -⟩ := after_inputAt_levelAt (fun i hi => hr i (Nat.lt_add_right n hi)) h j
  rw [hin]
  exact hr (k + j) (Nat.add_lt_add_left hj k)

/-- `SYNC1` at the end of a run is the level that `levelAt` foresees at its start. -/
theorem after_sync1 {k : Nat} {s t : State} (hr : NoReset s k) (h : After k s t) : t.sync1 = s.levelAt k := by
  obtain ⟨-, hl⟩ := after_inputAt_levelAt hr h 0
  exact hl

/-- The block stays assembled, reset or not. -/
theorem after_muxIn {k : Nat} {s t : State} (hm : s.muxIn = none) (h : After k s t) : t.muxIn = none := by
  induction k generalizing s with
  | zero =>
    cases h
    exact hm
  | succ k ih =>
    obtain ⟨u, hs, hu⟩ := after_succ_cases h
    refine ih ?_ hu
    obtain ⟨-, rfl⟩ | ⟨-, w, -, rfl⟩ := step_cases hs <;> rfl

theorem after_params {k : Nat} {s t : State} (h : After k s t) : t.params = s.params := by
  induction k generalizing s with
  | zero =>
    cases h
    rfl
  | succ k ih =>
    obtain ⟨u, hs, hu⟩ := after_succ_cases h
    exact (ih hu).trans (parametersNeverChange s u hs)

/-! ## The synchronizer -/

/-- Settles O9: the end of the tick writes the two flops and no operation does (`exec_frame`), so that the pin reaches `SYNC1`
in two ticks. -/
theorem synchronizerRunsEveryTick : Obligations.SynchronizerRunsEveryTick := by
  refine ⟨fun s t hr h => ?_, fun i s t h => ?_, fun s t hr h => after_sync1 hr h⟩
  · obtain ⟨u, rfl⟩ := step_out_of_reset hr h
    exact ⟨rfl, rfl⟩
  · have hframe := exec_frame h
    exact ⟨hframe.sync0, hframe.sync1⟩

/-! ## The operations that test the level -/

theorem exec_ph_instr {s : State} {p : Phase} (hp : s.ph = p) : exec s.ph.instr s = exec p.instr s := by
  rw [hp]

/-- Settles O20: the two branches of the test (41_button.md R61). -/
theorem pollTestsTheLevel : Obligations.PollTestsTheLevel := by
  refine ⟨fun v => rfl, fun s => ⟨fun hl => ?_, fun hl => ?_⟩⟩
  · exact congrArg _ (if_neg (hl ▸ Bool.false_ne_true))
  · exact congrArg _ (if_pos hl)

/-- Settles O22: the two branches of the test (41_button.md R63). -/
theorem dbHoldWaitsForRelease : Obligations.DbHoldWaitsForRelease := by
  refine ⟨fun v => rfl, fun s => ⟨fun hl => ?_, fun hl => ?_⟩⟩
  · exact congrArg _ (if_pos hl)
  · exact congrArg _ (if_neg (hl ▸ Bool.false_ne_true))

/-! ## What the button phases leave unchanged -/

/-- The four phases of the debounce state machine (41_button.md R61 to R64). -/
abbrev ButtonPhase (p : Phase) : Prop := p = .poll ∨ p = .dbLead ∨ p = .dbHold ∨ p = .dbTrail

/-- `t` agrees with `s` on what the debounce state machine does not write: every register but the flops, `PH` and `DLY`, and
the store. -/
structure ButtonFrame (s t : State) : Prop where
  mode : t.mode = s.mode
  duties : SameDuties s t
  animCh : t.animCh = s.animCh
  animPos : t.animPos = s.animPos
  mem : t.mem = s.mem

theorem ButtonFrame.refl (s : State) : ButtonFrame s s := ⟨rfl, ⟨rfl, rfl, rfl, rfl⟩, rfl, rfl, rfl⟩

theorem ButtonFrame.trans {s t u : State} (h : ButtonFrame s t) (h' : ButtonFrame t u) : ButtonFrame s u := by
  obtain ⟨hm, ⟨h1, h2, h3, h4⟩, hc, hp, hn⟩ := h
  obtain ⟨hm', ⟨h1', h2', h3', h4'⟩, hc', hp', hn'⟩ := h'
  exact ⟨hm'.trans hm, ⟨h1'.trans h1, h2'.trans h2, h3'.trans h3, h4'.trans h4⟩, hc'.trans hc, hp'.trans hp, hn'.trans hn⟩

theorem ButtonFrame.sameStore {s t : State} (h : ButtonFrame s t) : SameStore s t := sameStore_of_mem_eq h.mem

theorem exec_buttonPhase_frame {s u : State} (hp : ButtonPhase s.ph) (h : exec s.ph.instr s = .next u) : ButtonFrame s u := by
  obtain hp | hp | hp | hp := hp <;> rw [hp] at h <;> cases h
  case inl | inr.inr.inl => split <;> exact ⟨rfl, ⟨rfl, rfl, rfl, rfl⟩, rfl, rfl, rfl⟩
  case inr.inl | inr.inr.inr =>
    obtain ⟨-, he⟩ | ⟨-, he⟩ := s.delayTick_cases _ <;> rw [he] <;> exact ⟨rfl, ⟨rfl, rfl, rfl, rfl⟩, rfl, rfl, rfl⟩

/-- A run out of reset all of whose ticks are in button phases, by induction on its last tick. -/
theorem after_buttonFrame {k : Nat} {s t : State} (hm : s.muxIn = none) (hr : NoReset s k)
    (hb : ∀ j, j < k → ∃ u, After j s u ∧ ButtonPhase u.ph) (h : After k s t) : ButtonFrame s t := by
  induction k generalizing t with
  | zero =>
    cases h
    exact .refl s
  | succ k ih =>
    obtain ⟨u, hu, hp⟩ := hb k k.lt_succ_self
    obtain ⟨w, hw⟩ := exec_completes u.ph.instr u
    have hs := step_phase (after_muxIn hm hu) (hr.after hu).head hw
    cases (after_snoc hu hs).symm.trans h
    have hsu := ih (fun j hj => hr j (Nat.lt_succ_of_lt hj)) (fun j hj => hb j (Nat.lt_succ_of_lt hj)) hu
    have huw := exec_buttonPhase_frame hp hw
    exact hsu.trans ⟨huw.mode, huw.duties, huw.animCh, huw.animPos, huw.mem⟩

/-! ## A held button -/

/-- `DB_HOLD` has no timeout (41_button.md R63), by induction on the ticks. -/
theorem dbHold_runs {s : State} {n : Nat} (hp : s.ph = .dbHold) (hm : s.muxIn = none) (hr : NoReset s n)
    (hl : ∀ j, j < n → s.levelAt j = false) : ∃ u, After n s u ∧ u.ph = .dbHold ∧ u.dly = s.dly := by
  induction n with
  | zero => exact ⟨s, after_zero s, hp, rfl⟩
  | succ n ih =>
    have hrn : NoReset s n := fun j hj => hr j (Nat.lt_succ_of_lt hj)
    obtain ⟨u, hu, hup, hud⟩ := ih hrn fun j hj => hl j (Nat.lt_succ_of_lt hj)
    have hlevel : u.sync1 = false := (after_sync1 hrn hu).trans (hl n n.lt_succ_self)
    obtain ⟨-, hhold⟩ := dbHoldWaitsForRelease
    obtain ⟨-, hstay⟩ := hhold u
    have hs := step_phase (after_muxIn hm hu) (hr.after hu).head ((exec_ph_instr hup).trans (hstay hlevel))
    exact ⟨u.endTick u, after_snoc hu hs, hup, hud⟩

/-- Settles O25: `DB_HOLD` is held at every tick, and its ticks write nothing but the flops. -/
theorem stuckButtonHangsInDbHold : Obligations.StuckButtonHangsInDbHold := by
  intro s n hp hm hr hl
  have hrun : ∀ j, j ≤ n → ∃ u, After j s u ∧ u.ph = .dbHold ∧ u.dly = s.dly := fun j hj =>
    dbHold_runs hp hm (fun i hi => hr i (by omega)) fun i hi => hl i (by omega)
  obtain ⟨u, hu, hup, hud⟩ := hrun n (Nat.le_refl n)
  have hframe : ButtonFrame s u := after_buttonFrame hm hr (fun j hj => by
    obtain ⟨v, hv, hvp, -⟩ := hrun j (Nat.le_of_lt hj)
    exact ⟨v, hv, .inr (.inr (.inl hvp))⟩) hu
  exact ⟨u, hu, hup, hud, hframe.mode, hframe.duties, hframe.animCh, hframe.animPos, hframe.sameStore⟩

/-! ## The ticks of one press -/

/-- A tick that enters a delay of `T` ticks is followed by those ticks, and then by the delay's one successor
(10_state.md R14). -/
theorem entered_delay_runs {s w : State} {q : Phase} {T : Nat} (hm : s.muxIn = none) (hr : NoReset s (T + 1))
    (he : exec s.ph.instr s = .next w) (hT : ValidTicks T) (hd : w.dly = BitVec.ofNat 32 (T - 1))
    (hq : PlainDelay w.ph q) :
    (∀ j, 1 ≤ j → j ≤ T → ∃ u, After j s u ∧ u.ph = w.ph) ∧ ∃ u, After (T + 1) s u ∧ u.ph = q := by
  have hs := step_phase hm hr.head he
  have hk : w.dly.toNat = T - 1 := hd ▸ loadDelay_toNat hT
  have hsucc : T - 1 + 1 = T := Nat.sub_add_cancel hT.1
  have hdelay := delayLastsExactlyItsTicks (s.endTick w) (T - 1) q rfl hq hk
  rw [hsucc] at hdelay
  obtain ⟨hstay, u, hu, hup, -⟩ := hdelay (hr.endTick w)
  refine ⟨fun j h1 hj => ?_, u, after_succ hs hu, hup⟩
  obtain ⟨v, hv, hvp, -⟩ := hstay (j - 1) (by omega)
  refine ⟨v, ?_, hvp⟩
  rw [← Nat.sub_add_cancel h1]
  exact after_succ hs hv

/-- The poll that reads pressed, and the leading settle delay (41_button.md R61, R62). -/
theorem pressed_poll_runs {s : State} (hp : s.ph = .poll) (hm : s.muxIn = none) (hS : ValidTicks s.params.settleTicks)
    (hl : s.sync1 = false) (hr : NoReset s (s.params.settleTicks + 1)) :
    (∀ j, 1 ≤ j → j ≤ s.params.settleTicks → ∃ u, After j s u ∧ u.ph = .dbLead) ∧
    ∃ u, After (s.params.settleTicks + 1) s u ∧ u.ph = .dbHold := by
  obtain ⟨-, hpoll⟩ := pollTestsTheLevel
  obtain ⟨hpressed, -⟩ := hpoll s
  exact entered_delay_runs hm hr ((exec_ph_instr hp).trans (hpressed hl)) hS rfl (.inl ⟨rfl, rfl⟩)

/-- The tick of `DB_HOLD` that reads released, and the trailing settle delay (41_button.md R63, R64). -/
theorem released_dbHold_runs {s : State} (hp : s.ph = .dbHold) (hm : s.muxIn = none)
    (hS : ValidTicks s.params.settleTicks) (hl : s.sync1 = true) (hr : NoReset s (s.params.settleTicks + 1)) :
    (∀ j, 1 ≤ j → j ≤ s.params.settleTicks → ∃ u, After j s u ∧ u.ph = .dbTrail) ∧
    ∃ u, After (s.params.settleTicks + 1) s u ∧ u.ph = .advance := by
  obtain ⟨-, hhold⟩ := dbHoldWaitsForRelease
  obtain ⟨hreleased, -⟩ := hhold s
  exact entered_delay_runs hm hr ((exec_ph_instr hp).trans (hreleased hl)) hS rfl (.inr (.inl ⟨rfl, rfl⟩))

/-- A press of 41_button.md R65 and R66: the poll at `s` reads pressed, and the `h`-th tick of `DB_HOLD` is the first to read
released. -/
structure Press (s : State) (h : Nat) : Prop where
  ph : s.ph = .poll
  muxIn : s.muxIn = none
  settle : ValidTicks s.params.settleTicks
  pressed : s.sync1 = false
  one_le : 1 ≤ h
  held : ∀ j, s.params.settleTicks < j → j < s.params.settleTicks + h → s.levelAt j = false
  released : s.levelAt (s.params.settleTicks + h) = true
  noReset : NoReset s (2 * s.params.settleTicks + h + 1)

theorem Press.noReset_of_le {s : State} {h k : Nat} (p : Press s h) (hk : k ≤ 2 * s.params.settleTicks + h + 1) :
    NoReset s k :=
  fun j hj => p.noReset j (Nat.lt_of_lt_of_le hj hk)

theorem Press.dbLead {s : State} {h : Nat} (p : Press s h) :
    (∀ j, 1 ≤ j → j ≤ s.params.settleTicks → ∃ u, After j s u ∧ u.ph = .dbLead) ∧
    ∃ u, After (s.params.settleTicks + 1) s u ∧ u.ph = .dbHold :=
  pressed_poll_runs p.ph p.muxIn p.settle p.pressed (p.noReset_of_le (by omega))

theorem Press.dbHold {s : State} {h j : Nat} (p : Press s h) (hj : s.params.settleTicks < j)
    (hj' : j ≤ s.params.settleTicks + h) : ∃ u, After j s u ∧ u.ph = .dbHold := by
  obtain ⟨i, rfl⟩ := Nat.exists_eq_add_of_le hj
  obtain ⟨-, a, ha, hap⟩ := p.dbLead
  have hr : NoReset s (s.params.settleTicks + 1 + i) := p.noReset_of_le (by omega)
  have hlevel : ∀ k, k < i → a.levelAt k = false := fun k hk => by
    obtain ⟨-, hl⟩ := after_inputAt_levelAt (p.noReset_of_le (by omega)) ha k
    exact hl.trans (p.held _ (by omega) (by omega))
  obtain ⟨u, hu, hup, -⟩ := dbHold_runs hap (after_muxIn p.muxIn ha) (hr.after ha) hlevel
  exact ⟨u, after_add ha hu, hup⟩

/-- The trailing delay starts at the first released level. -/
theorem Press.dbTrail {s : State} {h : Nat} (p : Press s h) :
    (∀ j, s.params.settleTicks + h < j → j ≤ 2 * s.params.settleTicks + h → ∃ u, After j s u ∧ u.ph = .dbTrail) ∧
    ∃ u, After (2 * s.params.settleTicks + h + 1) s u ∧ u.ph = .advance := by
  obtain ⟨b, hb, hbp⟩ := p.dbHold (Nat.lt_add_of_pos_right p.one_le) (Nat.le_refl _)
  have hlevel : b.sync1 = true := (after_sync1 (p.noReset_of_le (by omega)) hb).trans p.released
  have hr : NoReset s (s.params.settleTicks + h + (s.params.settleTicks + 1)) := p.noReset_of_le (by omega)
  have hpar := after_params hb
  obtain ⟨htrail, c, hc, hcp⟩ :=
    released_dbHold_runs hbp (after_muxIn p.muxIn hb) (hpar ▸ p.settle) hlevel (hpar ▸ hr.after hb)
  rw [hpar] at htrail hc
  refine ⟨fun j hj hj' => ?_, c, ?_, hcp⟩
  · obtain ⟨i, rfl⟩ := Nat.exists_eq_add_of_le (Nat.le_of_lt hj)
    obtain ⟨u, hu, hup⟩ := htrail i (by omega) (by omega)
    exact ⟨u, after_add hb hu, hup⟩
  · rw [show 2 * s.params.settleTicks + h + 1 = s.params.settleTicks + h + (s.params.settleTicks + 1) by omega]
    exact after_add hb hc

/-- No tick of a press before its `ADVANCE` is outside the debounce state machine. -/
theorem Press.buttonPhase {s : State} {h j : Nat} (p : Press s h) (hj : j < 2 * s.params.settleTicks + h + 1) :
    ∃ u, After j s u ∧ ButtonPhase u.ph := by
  by_cases h0 : j = 0
  · exact ⟨s, h0 ▸ after_zero s, .inl p.ph⟩
  by_cases h1 : j ≤ s.params.settleTicks
  · obtain ⟨hlead, -⟩ := p.dbLead
    obtain ⟨u, hu, hup⟩ := hlead j (Nat.pos_of_ne_zero h0) h1
    exact ⟨u, hu, .inr (.inl hup)⟩
  by_cases h2 : j ≤ s.params.settleTicks + h
  · obtain ⟨u, hu, hup⟩ := p.dbHold (Nat.lt_of_not_le h1) h2
    exact ⟨u, hu, .inr (.inr (.inl hup))⟩
  · obtain ⟨htrail, -⟩ := p.dbTrail
    obtain ⟨u, hu, hup⟩ := htrail j (Nat.lt_of_not_le h2) (Nat.le_of_lt_succ hj)
    exact ⟨u, hu, .inr (.inr (.inr hup))⟩

/-- Settles O24: the leading delay, the hold up to the first released level and the trailing delay, one after the other; all
of these ticks are in button phases, which gives the frame. -/
theorem pressIsFirstReportedAtItsTick : Obligations.PressIsFirstReportedAtItsTick := by
  rintro s h hp hm ⟨hS, -, -⟩ hl h1 hheld hreleased hr
  have p : Press s h := ⟨hp, hm, hS, hl, h1, hheld, hreleased, hr⟩
  obtain ⟨hlead, -⟩ := p.dbLead
  obtain ⟨htrail, u, hu, hup⟩ := p.dbTrail
  have hframe : ButtonFrame s u := after_buttonFrame hm hr (fun _ hj => p.buttonPhase hj) hu
  have hpress : u.press = true := beq_iff_eq.2 hup
  exact ⟨hlead, fun _ hj hj' => p.dbHold hj hj', htrail, u, hu, hup, hpress, hframe.mode, hframe.duties, hframe.sameStore⟩

end Sys2Proof.Machine
end

section
/-! PROOFS. 42_store.md: the load at boot, the write after a press, and how the persistent byte and `MODE` keep together. -/

namespace Sys2Proof.Machine

/-! ## The load -/

theorem clampMode_outOfRange {v : Variant} {b : Byte} (h : v.modeCount ≤ b.toNat) : clampMode v b = 0 :=
  if_neg (Nat.not_lt.2 h)

/-- Settles O18: the two cases of the clamp (30_encoding.md R43). -/
theorem bootLoadClampsStoredByte : Obligations.BootLoadClampsStoredByte := by
  refine ⟨fun v => rfl, fun s => ?_⟩
  have hload : exec .bootLoad s = .next ((s.enterMode (clampMode s.params.variant s.nv)).goto .poll) := rfl
  refine ⟨fun hin => ?_, fun hout => ?_⟩
  · rw [hload, clampMode_eq hin]
    rfl
  · rw [hload, clampMode_outOfRange hout]
    rfl

/-! ## The write -/

theorem exec_persist_waiting {s : State} (hd : s.input.nvDone = false) : exec .persist s = .next s :=
  congrArg _ (if_neg (hd ▸ Bool.false_ne_true))

theorem exec_persist_done {s : State} (hd : s.input.nvDone = true) :
    exec .persist s = .next ((s.nvWrite s.mode).goto .render) :=
  congrArg _ (if_pos hd)

/-- The two cases of `PERSIST` (42_store.md R70). -/
theorem exec_persist_cases {s u : State} (h : exec .persist s = .next u) :
    (s.input.nvDone = false ∧ u = s) ∨ (s.input.nvDone = true ∧ u = (s.nvWrite s.mode).goto .render) := by
  cases hd : s.input.nvDone
  · cases (exec_persist_waiting hd).symm.trans h
    exact .inl ⟨rfl, rfl⟩
  · cases (exec_persist_done hd).symm.trans h
    exact .inr ⟨rfl, rfl⟩

/-- Settles O27: the request and its data are functions of the state, and the completed write is read back at `NV_ADDR` and
nowhere else. -/
theorem persistStoresModeWhenDone : Obligations.PersistStoresModeWhenDone := by
  refine ⟨fun v => rfl, fun s => ⟨fun hp => ⟨beq_iff_eq.2 hp, rfl, rfl⟩, exec_persist_waiting, fun hd => ?_⟩⟩
  obtain ⟨hnv, hother⟩ := readByte_of_mem_eq_write (t := (s.nvWrite s.mode).goto .render) rfl
  exact ⟨_, exec_persist_done hd, rfl, hnv, hother⟩

/-! ## Who writes the byte -/

/-- A phase is known by its operation (30_encoding.md R38). -/
theorem Phase.instr_inj {p q : Phase} (h : p.instr = q.instr) : p = q := by
  have hcode : p.code = q.code := by
    simpa only [encode_phase_instr, CodeWord.ph.injEq] using congrArg encode h
  exact Option.some.inj (by rw [← Phase.ofCode_code p, ← Phase.ofCode_code q, hcode])

/-- What the operation of `PH` does with the storage, by the phase. -/
theorem exec_phase_mem_cases {s u : State} (h : exec s.ph.instr s = .next u) :
    u.mem = s.mem ∨ (s.ph = .persist ∧ s.input.nvDone = true) := by
  obtain hm | ⟨hi, hd, -⟩ := exec_mem_cases h
  · exact .inl hm
  · exact .inr ⟨Phase.instr_inj (q := .persist) hi, hd⟩

/-- `PERSIST` has one predecessor, `ADVANCE` (44_main_loop.md R107). -/
theorem graphNext_eq_persist {s : State} (h : graphNext s = .persist) : s.ph = .persist ∨ s.ph = .advance := by
  unfold graphNext at h
  cases hp : s.ph <;> rw [hp] at h <;> dsimp only at h
  case persist => exact .inl rfl
  case advance => exact .inr rfl
  case render =>
    split at h
    · cases h
    · split at h <;> cases h
  case bootInit | poll | dbLead | dbHold | dbTrail | flkPause | brtStep => split at h <;> cases h
  all_goals cases h

/-- Settles O29: the storage is written by the completing `PERSIST` alone, that tick is the one way out of `PERSIST`, and the
transition graph has one way in. -/
theorem storeIsWrittenAfterAPressOnly : Obligations.StoreIsWrittenAfterAPressOnly := by
  intro s t hr hm h
  obtain ⟨hr', -⟩ | ⟨-, u, hu, rfl⟩ := step_phase_cases hm h
  · exact absurd (hr.symm.trans hr') (by decide)
  refine ⟨fun hchanged => ?_, fun hp hleft => ?_, fun hp hentered => ?_⟩
  · obtain hmem | hdone := exec_phase_mem_cases hu
    · exact absurd (sameStore_of_mem_eq hmem) hchanged
    · exact hdone
  · rw [hp] at hu
    obtain ⟨-, rfl⟩ | ⟨hd, rfl⟩ := exec_persist_cases hu
    · exact absurd hp hleft
    · exact ⟨hd, rfl, s.nvWrite_nv s.mode, rfl⟩
  · obtain hp' | ha := graphNext_eq_persist ((exec_phase_ph hu).symm.trans hentered)
    · exact absurd hp' hp
    · exact ha

/-! ## Who writes `MODE` -/

/-- What `RENDER` does with `MODE`: `OFF` and `RECOVER` write it, and no other render operation does (43_mode_fsm.md R75,
R84). -/
theorem exec_render_mode_cases {s u : State} (h : exec .render s = .next u) :
    (s.mode = 0 ∧ u.mode = 1) ∨ (s.params.variant.modeCount ≤ s.mode.toNat ∧ u.mode = 0) ∨
    (s.mode ≠ 0 ∧ ModeInRange s ∧ u.mode = s.mode) := by
  have hoff := decodeRender_eq_off s.params.variant s.mode
  have hrec := decodeRender_eq_recover s.params.variant s.mode
  rw [exec_render_eq] at h
  cases hd : decodeRender s.params.variant s.mode <;> rw [hd] at h hoff hrec
  case off =>
    cases h
    exact .inl ⟨hoff.1 rfl, rfl⟩
  case recover =>
    cases h
    exact .inr (.inl ⟨hrec.1 rfl, rfl⟩)
  all_goals
    cases h
    have h0 : s.mode ≠ 0 := fun h0 => absurd (hoff.2 h0) (by decide)
    have hin : ModeInRange s := Nat.lt_of_not_le fun hout => absurd (hrec.2 hout) (by decide)
    exact .inr (.inr ⟨h0, hin, rfl⟩)

/-- The operation of a phase other than `BOOT_LOAD`, `ADVANCE` and `RENDER` keeps `MODE` (10_state.md R15). -/
theorem exec_phase_mode_cases {s u : State} (h : exec s.ph.instr s = .next u) :
    u.mode = s.mode ∨ s.ph = .bootLoad ∨ s.ph = .advance ∨ s.ph = .render := by
  cases hp : s.ph <;> rw [hp] at h
  case bootLoad => exact .inr (.inl rfl)
  case advance => exact .inr (.inr (.inl rfl))
  case render => exact .inr (.inr (.inr rfl))
  case brtStep =>
    obtain ⟨-, rfl⟩ | ⟨-, -, rfl⟩ | ⟨-, -, rfl⟩ := exec_brtStep_cases h <;> exact .inl rfl
  case dbLead | dbTrail | flkPause =>
    cases h
    obtain ⟨-, he⟩ | ⟨-, he⟩ := s.delayTick_cases _ <;> rw [he] <;> exact .inl rfl
  case bootInit | poll | dbHold | persist =>
    cases h
    split <;> exact .inl rfl
  case bootPwm =>
    cases h
    exact .inl rfl

/-! ## The byte and `MODE` -/

/-- The mode a reboot would load (42_store.md R72 e). -/
abbrev State.rebootMode (s : State) : Byte := clampMode s.params.variant s.nv

theorem rebootMode_of_mem_eq {s u : State} (h : exec s.ph.instr s = .next u) (hm : u.mem = s.mem) :
    u.rebootMode = s.rebootMode := by
  have hpar := (exec_frame h).params
  have hnv : u.nv = s.nv := by
    rw [State.nv, hpar]
    exact sameStore_of_mem_eq hm _
  rw [State.rebootMode, hpar, hnv]

/-- Boot ends with the load of the very mode that a reboot would load (42_store.md R69). -/
theorem rebootAgrees_of_booting {s u : State} (hb : Booting s) (h : exec s.ph.instr s = .next u) : RebootAgrees u := by
  intro hb' _
  have hph := exec_phase_ph h
  unfold graphNext at hph
  obtain hp | hp | hp := hb <;> rw [hp] at h hph
  · dsimp only at hph
    split at hph <;> simp [hph] at hb'
  · simp [hph] at hb'
  · cases h
    exact .inl rfl

/-- A completed write leaves `NV = MODE`, which a reboot takes as it is, `MODE` being in range (42_store.md R72 c). -/
theorem rebootAgrees_of_persist {s u : State} (hr : ModeInRange s) (hp : s.ph = .persist)
    (h : exec s.ph.instr s = .next u) : RebootAgrees u := by
  intro _ hleft
  rw [hp] at h
  obtain ⟨-, rfl⟩ | ⟨-, rfl⟩ := exec_persist_cases h
  · exact absurd hp hleft
  · left
    rw [State.goto_nv, State.nvWrite_nv]
    exact clampMode_eq hr

/-- Past boot and out of `PERSIST` the byte stays, and of the writes of `MODE` only `OFF` is left, which goes from 0 to 1
(42_store.md R72 d): `ADVANCE` enters `PERSIST`, and `RECOVER` is not selected. -/
theorem rebootAgrees_of_agreed {s u : State} (hr : ModeInRange s) (hb : ¬ Booting s) (hp : s.ph ≠ .persist)
    (hs : s.rebootMode = s.mode ∨ (s.rebootMode = 0 ∧ s.mode = 1)) (h : exec s.ph.instr s = .next u) :
    RebootAgrees u := by
  intro _ hnotPersist
  have hmem : u.mem = s.mem := (exec_phase_mem_cases h).resolve_right fun hd => hp hd.1
  change u.rebootMode = u.mode ∨ (u.rebootMode = 0 ∧ u.mode = 1)
  rw [rebootMode_of_mem_eq h hmem]
  obtain hkept | hload | hadv | hrender := exec_phase_mode_cases h
  · rwa [hkept]
  · exact absurd (.inr (.inr hload)) hb
  · rw [hadv] at h
    cases h
    exact absurd rfl hnotPersist
  · rw [hrender] at h
    obtain ⟨h0, h1⟩ | ⟨hout, -⟩ | ⟨-, -, hkept⟩ := exec_render_mode_cases h
    · have hzero : s.rebootMode = 0 := hs.elim (·.trans h0) And.left
      exact .inr ⟨hzero, h1⟩
    · exact absurd hr (Nat.not_lt.2 hout)
    · rwa [hkept]

/-- Settles O47: a reset leads to boot, boot loads the byte, `PERSIST` stores `MODE`, and in between only `OFF` moves `MODE`. -/
theorem rebootModeAgreesInvariant : Obligations.RebootModeAgreesInvariant := by
  intro s t hr hs h
  obtain rfl | ⟨u, hu, rfl⟩ | ⟨d1, d2, d3, d4, rfl⟩ := step_operation_cases h
  · exact fun hb => absurd (.inl rfl) hb
  · suffices hagree : RebootAgrees u from hagree
    by_cases hb : Booting s
    · exact rebootAgrees_of_booting hb hu
    · by_cases hp : s.ph = .persist
      · exact rebootAgrees_of_persist hr hp hu
      · exact rebootAgrees_of_agreed hr hb hp (hs hb hp) hu
  · exact hs

/-! ## The ticks to the first renders -/

/-- A poll that reads released (41_button.md R61). -/
theorem step_poll_released {s : State} (hp : s.ph = .poll) (hm : s.muxIn = none) (hr : s.input.rstN = true)
    (hl : s.sync1 = true) : step s = .next (s.endTick (s.goto .render)) := by
  obtain ⟨-, hpoll⟩ := pollTestsTheLevel
  obtain ⟨-, hreleased⟩ := hpoll s
  exact step_phase hm hr ((exec_ph_instr hp).trans (hreleased hl))

/-- The render of mode 0 (43_mode_fsm.md R75). -/
theorem step_render_off {s : State} (hp : s.ph = .render) (hm : s.muxIn = none) (hr : s.input.rstN = true)
    (h0 : s.mode = 0) : step s = .next (s.endTick (((s.setch 0 0).enterMode 1).goto .poll)) := by
  refine step_phase hm hr ?_
  rw [exec_ph_instr hp, Phase.instr, exec_render_eq, (decodeRender_eq_off s.params.variant s.mode).2 h0]
  rfl

theorem setch_zero_duties (c : Selector) (s : State) : Duties (s.setch 0 c) 0 0 0 0 := by
  simp [Duties]

/-- Mode 0 is left at its own render: all channels off, mode 1, and the next render in mode 1 if the poll between reads
released (43_mode_fsm.md R75, R98). -/
theorem render_off_then_released_poll {s : State} (hp : s.ph = .render) (hm : s.muxIn = none) (h0 : s.mode = 0)
    (hr : NoReset s 2) (hl : s.levelAt 1 = true) :
    (∃ u, After 1 s u ∧ u.ph = .poll ∧ u.mode = 1 ∧ Duties u 0 0 0 0) ∧
    ∃ u, After 2 s u ∧ u.ph = .render ∧ u.mode = 1 ∧ Duties u 0 0 0 0 ∧ u.nv = s.nv := by
  have hoff := step_render_off hp hm hr.head h0
  have h1 := after_succ hoff (after_zero _)
  have hpoll := step_poll_released rfl rfl (hr.after (n := 1) h1).head hl
  have hduties := setch_zero_duties 0 s
  exact ⟨⟨_, h1, rfl, rfl, hduties⟩, ⟨_, after_snoc h1 hpoll, rfl, rfl, hduties, rfl⟩⟩

/-- Settles O55: the load clamps the byte to 0, the poll reads released, and mode 0 is rendered. -/
theorem outOfRangeByteRendersAsModeZero : Obligations.OutOfRangeByteRendersAsModeZero := by
  intro s hp hm hout hr hl1 hl3
  obtain ⟨-, hload⟩ := bootLoadClampsStoredByte
  obtain ⟨-, hclamp⟩ := hload s
  have h1 := step_phase hm hr.head ((exec_ph_instr hp).trans (hclamp hout))
  have h2 := after_succ h1 (after_succ (step_poll_released rfl rfl (hr.endTick _).head hl1) (after_zero _))
  obtain ⟨-, hlevel⟩ := after_inputAt_levelAt (fun j hj => hr j (by omega)) h2 1
  obtain ⟨⟨u, hu, hoff⟩, v, hv, hnext⟩ :=
    render_off_then_released_poll rfl rfl rfl (hr.after (k := 2) h2) (hlevel.trans hl3)
  exact ⟨⟨_, h2, rfl, rfl⟩, ⟨u, after_add h2 hu, hoff⟩, v, after_add h2 hv, hnext⟩

/-! ## The ticks of one store -/

/-- `PERSIST` waits for `nv_done` (42_store.md R70), by induction on the ticks. -/
theorem persist_waits {s : State} {w : Nat} (hp : s.ph = .persist) (hm : s.muxIn = none) (hr : NoReset s w)
    (hd : ∀ j, j < w → (s.inputAt j).nvDone = false) : ∃ u, After w s u ∧ u.ph = .persist ∧ u.mode = s.mode := by
  induction w generalizing s with
  | zero => exact ⟨s, after_zero s, hp, rfl⟩
  | succ w ih =>
    have hwait : s.input.nvDone = false := s.inputAt_zero ▸ hd 0 w.succ_pos
    have hs := step_phase hm hr.head ((exec_ph_instr hp).trans (exec_persist_waiting hwait))
    obtain ⟨u, hu, hup, hum⟩ := ih (s := s.endTick s) hp rfl (hr.endTick s) fun j hj => by
      rw [State.endTick_inputAt]
      exact hd (j + 1) (Nat.succ_lt_succ hj)
    exact ⟨u, after_succ hs hu, hup, hum⟩

/-- The whole of a store that answers after `w` ticks of waiting. -/
theorem persist_completes {s : State} {w : Nat} (hp : s.ph = .persist) (hm : s.muxIn = none) (hr : NoReset s (w + 1))
    (hd : ∀ j, j < w → (s.inputAt j).nvDone = false) (hdone : (s.inputAt w).nvDone = true) :
    ∃ u, After (w + 1) s u ∧ u.ph = .render ∧ u.mode = s.mode ∧ u.nv = s.mode := by
  have hrw : NoReset s w := fun j hj => hr j (Nat.lt_succ_of_lt hj)
  obtain ⟨u, hu, hup, hum⟩ := persist_waits hp hm hrw hd
  obtain ⟨hin, -⟩ := after_inputAt_levelAt hrw hu 0
  have hs := step_persist_done hup (after_muxIn hm hu) (hr.after hu).head (by rwa [← u.inputAt_zero, hin])
  exact ⟨_, after_snoc hu hs, rfl, hum, (u.nvWrite_nv u.mode).trans hum⟩

/-- The render of a mode in range leaves the mode it rests in, which is 1 for mode 0, and the byte as it was. -/
theorem step_render_inRange {s : State} (hp : s.ph = .render) (hm : s.muxIn = none) (hr : s.input.rstN = true)
    (hrange : ModeInRange s) :
    ∃ t, step s = .next t ∧ t.ph ≠ .render ∧ t.mode = (if s.mode = 0 then 1 else s.mode) ∧ t.nv = s.nv := by
  obtain ⟨u, hu⟩ := exec_completes .render s
  have hs := step_phase hm hr ((exec_ph_instr hp).trans hu)
  refine ⟨_, hs, ?_, ?_, ?_⟩
  · obtain ⟨hph, -⟩ | ⟨hph, -⟩ | ⟨hph, -⟩ := execRender_phase hu <;> simp [hph]
  · obtain ⟨h0, h1⟩ | ⟨hout, -⟩ | ⟨h0, -, hkept⟩ := exec_render_mode_cases hu
    · rw [if_pos h0]
      exact h1
    · exact absurd hrange (Nat.not_lt.2 hout)
    · rw [if_neg h0]
      exact hkept
  · obtain ⟨hsame, -⟩ := onlyPersistTouchesTheStore .render s u hu
    rw [State.endTick_nv, State.nv, (exec_frame hu).params]
    exact hsame (by decide) _

theorem nextMode_lt (v : Variant) (m : Byte) : (nextMode v m).toNat < v.modeCount := by
  rw [nextMode_toNat]
  exact Nat.mod_lt _ (by cases v <;> decide)

/-- The mode after `ADVANCE` and the render, in numbers: mode 0 is left at once, so that the resting modes 1 to `N - 1` follow
each other in a circle (43_mode_fsm.md R97). -/
theorem restingMode_after_nextMode {v : Variant} {m : Byte} (h0 : m ≠ 0) (hm : m.toNat < v.modeCount) :
    (if nextMode v m = 0 then 1 else nextMode v m).toNat = m.toNat % (v.modeCount - 1) + 1 := by
  have hn := nextMode_toNat v m
  have hpos : m.toNat ≠ 0 := fun e => h0 (BitVec.eq_of_toNat_eq e)
  have hzero : nextMode v m = 0 ↔ (nextMode v m).toNat = 0 := BitVec.toNat_inj.symm
  split
  · rw [hzero.1 ‹_›] at hn
    show 1 = _
    cases v <;> simp only [Variant.modeCount] at * <;> omega
  · rw [hzero, hn] at *
    cases v <;> simp only [Variant.modeCount] at * <;> omega

/-- `ADVANCE` and the store with its wait (43_mode_fsm.md R73, 42_store.md R70). -/
theorem advance_stores {s : State} {w : Nat} (hp : s.ph = .advance) (hm : s.muxIn = none) (hr : NoReset s (w + 2))
    (hwait : ∀ j, 1 ≤ j → j ≤ w → (s.inputAt j).nvDone = false) (hdone : (s.inputAt (w + 1)).nvDone = true) :
    ∃ u, After (w + 2) s u ∧ u.ph = .render ∧ u.mode = nextMode s.params.variant s.mode ∧
      u.nv = nextMode s.params.variant s.mode := by
  have hadv := step_phase hm hr.head (exec_ph_instr hp)
  have hin := s.endTick_inputAt ((s.enterMode (nextMode s.params.variant s.mode)).goto .persist)
  obtain ⟨u, hu, hstored⟩ := persist_completes rfl rfl (hr.endTick _)
    (fun j hj => (congrArg _ (hin j)).trans (hwait (j + 1) (Nat.le_add_left 1 j) hj)) ((congrArg _ (hin w)).trans hdone)
  exact ⟨u, after_succ hadv hu, hstored⟩

/-- Settles O56: `ADVANCE`, the store with its wait, and the render. -/
theorem pressMovesToNextRestingMode : Obligations.PressMovesToNextRestingMode := by
  intro s w hp hm h0 hrange hr hwait hdone
  obtain ⟨a, ha, hap, ham, han⟩ := advance_stores hp hm (fun j hj => hr j (Nat.lt_succ_of_lt hj)) hwait hdone
  have harange : ModeInRange a := by
    rw [ModeInRange, ham, after_params ha]
    exact nextMode_lt _ _
  obtain ⟨u, hu, hup, hum, hun⟩ := step_render_inRange hap (after_muxIn hm ha) (hr.after (n := 1) ha).head harange
  refine ⟨u, after_snoc ha hu, hup, ?_, ?_⟩
  · rw [hum, ham]
    exact restingMode_after_nextMode h0 hrange
  · rw [hun, han]
    exact nextMode_toNat _ _

end Sys2Proof.Machine
end

section
/-! PROOFS. 43_mode_fsm.md: who writes `MODE` and what keeps it in range, the operation of every mode, and the steps of the
breathe animation. -/

namespace Sys2Proof.Machine

/-! ## Who writes `MODE` -/

/-- The operations that write `MODE` themselves (43_mode_fsm.md R85); `RENDER` writes it through the last two. -/
abbrev ModeWriter (i : Instr) : Prop :=
  i = .bootLoad ∨ i = .advance ∨ i = .renderOff ∨ ∃ m, i = .renderRecover m

/-- `MODE` is written together with the cursor (43_mode_fsm.md R85). -/
theorem modeWriter_clears_cursor {i : Instr} {s u : State} (hi : ModeWriter i) (h : exec i s = .next u) :
    u.animCh = 0 ∧ u.animPos = 0 := by
  obtain rfl | rfl | rfl | ⟨m, rfl⟩ := hi <;> cases h <;> exact ⟨rfl, rfl⟩

theorem exec_keeps_mode {i : Instr} {s u : State} (hi : ¬ ModeWriter i) (hr : i ≠ .render) (h : exec i s = .next u) :
    u.mode = s.mode := by
  cases i
  case render => exact absurd rfl hr
  case bootLoad | advance | renderOff | renderRecover => simp [ModeWriter] at hi
  case brtStep => obtain ⟨-, rfl⟩ | ⟨-, -, rfl⟩ | ⟨-, -, rfl⟩ := exec_brtStep_cases h <;> rfl
  case dbLead | dbTrail | flkPause =>
    cases h
    obtain ⟨-, he⟩ | ⟨-, he⟩ := s.delayTick_cases _ <;> rw [he] <;> rfl
  case bootInit | poll | dbHold | persist =>
    cases h
    split <;> rfl
  all_goals
    cases h
    rfl

/-- Of the operations a mode byte selects, `OFF` and `RECOVER` write `MODE`. -/
theorem RenderOp.eq_of_modeWriter {op : RenderOp} {m : Byte} (h : ModeWriter (op.instr m)) : op = .off ∨ op = .recover := by
  cases op
  case off => exact .inl rfl
  case recover => exact .inr rfl
  all_goals simp [ModeWriter, RenderOp.instr] at h

/-- `RENDER` writes `MODE` in mode 0 and in the modes out of range, and clears the cursor with it. -/
theorem exec_render_writes_mode {s u : State} (h : exec .render s = .next u) (hm : u.mode ≠ s.mode) :
    (u.animCh = 0 ∧ u.animPos = 0) ∧ (s.mode = 0 ∨ s.params.variant.modeCount ≤ s.mode.toNat) := by
  rw [exec_render_eq] at h
  have hw : ModeWriter ((decodeRender s.params.variant s.mode).instr s.mode) := by
    by_contra hw
    exact hm (exec_keeps_mode hw (RenderOp.instr_ne _ _).1 h)
  exact ⟨modeWriter_clears_cursor hw h,
    (RenderOp.eq_of_modeWriter hw).imp (decodeRender_eq_off _ _).1 (decodeRender_eq_recover _ _).1⟩

/-- Settles O30: an operation writes `MODE` itself, or it is `RENDER` and selects one that does. -/
theorem cursorIsClearedWithEveryModeWrite : Obligations.CursorIsClearedWithEveryModeWrite := by
  refine fun i s t h => ⟨fun hi => modeWriter_clears_cursor hi h, fun hm => ?_⟩
  by_cases hi : ModeWriter i
  · obtain ⟨hc, hp⟩ := modeWriter_clears_cursor hi h
    exact ⟨hc, hp, hi.imp_right (Or.imp_right (Or.imp_right .inl))⟩
  · by_cases hr : i = .render
    · obtain ⟨⟨hc, hp⟩, hsel⟩ := exec_render_writes_mode (hr ▸ h) hm
      exact ⟨hc, hp, .inr (.inr (.inr (.inr ⟨hr, hsel⟩)))⟩
    · exact absurd (exec_keeps_mode hi hr h) hm

/-! ## The range of `MODE` -/

/-- Modes 0 and 1 are modes of both variants (43_mode_fsm.md R75, R84). -/
theorem one_lt_modeCount (v : Variant) : 1 < v.modeCount := by
  cases v <;> decide

/-- Every value that the operation of `PH` writes into `MODE` is in range: a clamped byte, a remainder modulo `N`, or the 0 or 1
of a render (43_mode_fsm.md R96). -/
theorem exec_phase_modeInRange {s u : State} (hs : ModeInRange s) (h : exec s.ph.instr s = .next u) : ModeInRange u := by
  have hN := one_lt_modeCount s.params.variant
  rw [ModeInRange, (exec_frame h).params]
  obtain hkept | hload | hadv | hrender := exec_phase_mode_cases h
  · rwa [hkept]
  · rw [hload] at h
    cases h
    exact clampMode_lt _ _
  · rw [hadv] at h
    cases h
    exact nextMode_lt _ _
  · rw [hrender] at h
    obtain ⟨-, h1⟩ | ⟨-, h0⟩ | ⟨-, -, hkept⟩ := exec_render_mode_cases h
    · rwa [h1]
    · rw [h0]
      exact Nat.zero_lt_of_lt hN
    · rwa [hkept]

/-- Settles O45: a reset writes 0, an operation of `PH` stays in range, a command leaves `MODE` alone; and the bytes that select
`RECOVER` are those out of range. -/
theorem modeStaysInRange : Obligations.ModeStaysInRange := by
  refine ⟨fun s t hs h => ?_, fun s hs hrec => ?_⟩
  · obtain rfl | ⟨u, hu, rfl⟩ | ⟨d1, d2, d3, d4, rfl⟩ := step_operation_cases h
    · exact Nat.zero_lt_of_lt (one_lt_modeCount s.params.variant)
    · have hrange := exec_phase_modeInRange hs hu
      exact hrange
    · exact hs
  · exact Nat.not_le.2 hs ((decodeRender_eq_recover _ _).1 hrec)

/-! ## The resting mode -/

/-- What a tick out of reset runs: the operation of `PH`, or a command from outside the sequencer. -/
theorem exec_fetch_cases {s u : State} (h : exec s.fetch s = .next u) :
    exec s.ph.instr s = .next u ∨ ∃ d1 d2 d3 d4, u = s.setDuties d1 d2 d3 d4 := by
  cases hm : s.muxIn with
  | none => exact .inl (State.fetch_none hm ▸ h)
  | some w =>
    obtain ⟨d1, d2, d3, d4, hd⟩ := fetch_command hm
    cases (hd s).symm.trans h
    exact .inr ⟨d1, d2, d3, d4, rfl⟩

/-- The boot phases have no predecessor but each other (44_main_loop.md R107). -/
theorem booting_of_graphNext {s : State}
    (h : graphNext s = .bootInit ∨ graphNext s = .bootPwm ∨ graphNext s = .bootLoad) : Booting s := by
  unfold graphNext at h
  cases hp : s.ph <;> rw [hp] at h <;> dsimp only at h
  case bootInit => exact .inl hp
  case bootPwm => exact .inr (.inl hp)
  case render =>
    split at h
    · simp at h
    · split at h <;> simp at h
  case poll | dbLead | dbHold | dbTrail | persist | flkPause | brtStep => split at h <;> simp at h
  all_goals simp at h

/-- Past boot the operation of `PH` leaves `MODE = 0` to `PERSIST` and to `RENDER` alone: only a wrapping `ADVANCE` writes 0,
which enters `PERSIST`, that leads to `RENDER`, and the render of mode 0 writes 1 (43_mode_fsm.md R97 b). -/
theorem exec_phase_mode_ne_zero {s u : State} (hb : ¬ Booting s) (hr : ModeInRange s)
    (hs : s.ph ≠ .persist → s.ph ≠ .render → s.mode ≠ 0) (h : exec s.ph.instr s = .next u)
    (hp : u.ph ≠ .persist) (hn : u.ph ≠ .render) : u.mode ≠ 0 := by
  by_cases hrender : s.ph = .render
  · rw [hrender] at h
    obtain ⟨-, h1⟩ | ⟨hout, -⟩ | ⟨h0, -, hkept⟩ := exec_render_mode_cases h
    · rw [h1]
      decide
    · exact absurd hr (Nat.not_lt.2 hout)
    · rwa [hkept]
  by_cases hpersist : s.ph = .persist
  · rw [hpersist] at h
    obtain ⟨-, rfl⟩ | ⟨-, rfl⟩ := exec_persist_cases h
    · exact absurd hpersist hp
    · exact absurd rfl hn
  obtain hkept | hload | hadv | hrender' := exec_phase_mode_cases h
  · rw [hkept]
    exact hs hpersist hrender
  · exact absurd (.inr (.inr hload)) hb
  · rw [hadv] at h
    cases h
    exact absurd rfl hp
  · exact absurd hrender' hrender

theorem exec_phase_restingModeNonzero {s u : State} (hs : RestingModeNonzero s) (h : exec s.ph.instr s = .next u) :
    RestingModeNonzero u := by
  obtain ⟨hb, hr, hz⟩ := hs
  have hph := exec_phase_ph h
  refine ⟨fun hb' => hb (booting_of_graphNext ?_), exec_phase_modeInRange hr h, exec_phase_mode_ne_zero hb hr hz h⟩
  rwa [Booting, hph] at hb'

/-- Settles O46: out of reset the operation of `PH` keeps the invariant, and a command changes nothing it speaks of. -/
theorem restingModeStaysNonzero : Obligations.RestingModeStaysNonzero := by
  intro s t hr hs h
  obtain ⟨hr', -⟩ | ⟨-, u, hu, rfl⟩ := step_cases h
  · exact absurd (hr.symm.trans hr') (by decide)
  · obtain hu | ⟨d1, d2, d3, d4, rfl⟩ := exec_fetch_cases hu
    · have hrest := exec_phase_restingModeNonzero hs hu
      exact hrest
    · exact hs

/-! ## `ADVANCE` -/

/-- Settles O26: the remainder modulo `N` fits the byte (`nextMode_toNat`). -/
theorem advanceIncrementsModuloN : Obligations.AdvanceIncrementsModuloN :=
  ⟨fun _ => rfl, fun s => ⟨beq_iff_eq.2, rfl, nextMode_toNat s.params.variant s.mode⟩⟩

/-! ## The selection -/

theorem exec_render_of_decodeRender {s : State} {op : RenderOp} (h : decodeRender s.params.variant s.mode = op) :
    exec .render s = exec (op.instr s.mode) s := by
  rw [exec_render_eq, h]

/-- Settles O31: mode 0 and the modes out of range in either variant, and the maps of the two variants between them
(30_encoding.md R39, R40). -/
theorem renderPerformsTheSelectedOperation : Obligations.RenderPerformsTheSelectedOperation := by
  refine ⟨fun _ => rfl, fun s => ⟨fun h0 => ?_, fun hv => ?_, fun hv => ?_⟩⟩
  · exact exec_render_of_decodeRender ((decodeRender_eq_off _ _).2 h0)
  all_goals
    have hout : s.params.variant.modeCount ≤ s.mode.toNat → exec .render s = exec (.renderRecover s.mode) s :=
      fun h => exec_render_of_decodeRender ((decodeRender_eq_recover _ _).2 h)
    have hsel : ∀ {m : Byte} (op : RenderOp), decodeRender s.params.variant m = op → s.mode = m →
        exec .render s = exec (op.instr s.mode) s := fun op hd hm => exec_render_of_decodeRender (hm ▸ hd)
    rw [hv] at hout hsel
  · exact ⟨hsel .static1 rfl, hsel .static2 rfl, hsel .static3 rfl, hsel .static4 rfl, hsel .static5 rfl,
      hsel .static6 rfl, hsel .static7 rfl, hout⟩
  · exact ⟨hsel .flicker rfl, hsel .breathe rfl, hsel .solo1 rfl, hsel .solo2 rfl, hsel .solo3 rfl, hsel .solo4 rfl, hout⟩

/-! ## `OFF` and `RECOVER` -/

/-- Duty 0 is duty 0 on every channel, whatever the selector (40_channel_driver.md R49). -/
theorem State.setch_zero (c : Selector) (s : State) : s.setch 0 c = s.setDuties 0 0 0 0 := by
  simp [State.setch]

/-- Settles O32: `SETCH` of duty 0, and the write of `MODE`. -/
theorem renderOffResult : Obligations.RenderOffResult := by
  refine ⟨fun _ => rfl, fun s => ?_⟩
  have hoff : exec .renderOff s = .next (((s.setch 0 0).enterMode 1).goto .poll) := rfl
  rw [hoff, State.setch_zero]
  rfl

/-- Settles O33: `SETCH` of duty 0, and the write of `MODE`; the byte that selected the operation has no say. -/
theorem renderRecoverResult : Obligations.RenderRecoverResult := by
  refine ⟨fun _ _ => decode_outOfRange, fun m s => ?_⟩
  have hrecover : exec (.renderRecover m) s = .next (((s.setch 0 0).enterMode 0).goto .poll) := rfl
  rw [hrecover, State.setch_zero]
  rfl

/-- Settles O54: the render of mode 0 and the released poll (`render_off_then_released_poll`) leave mode 1, whose operation is
the first of the variant's map. -/
theorem modeZeroIsTransient : Obligations.ModeZeroIsTransient := by
  intro s hp h0 hm hr hl
  obtain ⟨hoff, u, hu, hup, hum, hduties, -⟩ := render_off_then_released_poll hp hm h0 hr hl
  refine ⟨hoff, u, hu, hup, hum, hduties, ?_⟩
  rw [hum]
  cases u.params.variant <;> rfl

/-! ## The static and the solo operations -/

theorem zext16_toNat (d : LogicalDuty) : (zext16 d).toNat = d.toNat :=
  BitVec.toNat_setWidth_of_le (by decide)

/-- Element `k` of the row on channel `k` (43_mode_fsm.md R76). -/
theorem renderRow_duties (r : DutyRow) (s : State) :
    Duties (renderRow r s) r.ch1.toNat r.ch2.toNat r.ch3.toNat r.ch4.toNat :=
  ⟨zext16_toNat r.ch1, zext16_toNat r.ch2, zext16_toNat r.ch3, zext16_toNat r.ch4⟩

/-- Settles O34: each operation is `renderRow` of its row. -/
theorem staticOperationsWriteTheirRow : Obligations.StaticOperationsWriteTheirRow := by
  refine ⟨⟨rfl, rfl, rfl, rfl, rfl, rfl, rfl⟩, fun s => ⟨rfl, rfl, ?_⟩⟩
  rintro i r (⟨rfl, rfl⟩ | ⟨rfl, rfl⟩ | ⟨rfl, rfl⟩ | ⟨rfl, rfl⟩ | ⟨rfl, rfl⟩) <;>
    exact ⟨_, rfl, renderRow_duties _ s, rfl⟩

/-- A single-channel `SETCH` as numbers: its duty on the channel it addresses, 0 on the three others
(40_channel_driver.md R51 to R54). -/
theorem setch_single_duties (d : Duty) {c : Selector} (h1 : 1 ≤ c.toNat) (h4 : c.toNat ≤ 4) (s : State) :
    Duties (s.setch d c) (if c.toNat = 1 then d.toNat else 0) (if c.toNat = 2 then d.toNat else 0)
      (if c.toNat = 3 then d.toNat else 0) (if c.toNat = 4 then d.toNat else 0) :=
  ⟨muxOut_single d h1 h4 1, muxOut_single d h1 h4 2, muxOut_single d h1 h4 3, muxOut_single d h1 h4 4⟩

/-- Settles O35: each operation is the single-channel `SETCH` of `SOLO_DUTY` with its channel. -/
theorem soloOperationsLightOneChannel : Obligations.SoloOperationsLightOneChannel := by
  refine ⟨⟨rfl, rfl, rfl, rfl⟩, fun s i j hi => ?_⟩
  have hsolo := fun (c : Selector) h1 h4 => setch_single_duties (zext16 s.params.soloDuty) (c := c) h1 h4 s
  rw [zext16_toNat] at hsolo
  obtain ⟨rfl, rfl⟩ | ⟨rfl, rfl⟩ | ⟨rfl, rfl⟩ | ⟨rfl, rfl⟩ := hi
  · exact ⟨_, rfl, hsolo 1 (by decide) (by decide), rfl⟩
  · exact ⟨_, rfl, hsolo 2 (by decide) (by decide), rfl⟩
  · exact ⟨_, rfl, hsolo 3 (by decide) (by decide), rfl⟩
  · exact ⟨_, rfl, hsolo 4 (by decide) (by decide), rfl⟩

/-! ## The flicker operation -/

/-- The first draw fits its 16 bits after the reduction (43_mode_fsm.md R86). -/
theorem flickerDuty_toNat (i : Inputs) : (flickerDuty i).toNat = i.rndDuty.toNat % 40 := by
  rw [flickerDuty, Config.flickerDutyRange, BitVec.toNat_ofNat]
  omega

/-- The second draw fits its 3 bits after the reduction (43_mode_fsm.md R86). -/
theorem flickerSel_toNat (i : Inputs) : (flickerSel i).toNat = i.rndSel.toNat % 5 := by
  rw [flickerSel, Config.selectorCount, BitVec.toNat_ofNat]
  omega

/-- Settles O36: the reduced second draw is 0, a broadcast, or one of the four single-channel selectors. -/
theorem flickerAppliesBothDraws : Obligations.FlickerAppliesBothDraws := by
  refine ⟨rfl, fun s => ?_⟩
  rw [← flickerDuty_toNat s.input, ← flickerSel_toNat s.input]
  refine ⟨_, rfl, fun hsel => ?_, fun hsel => ?_, rfl⟩
  · have hall := s.setch_broadcast (flickerDuty s.input) (.inl (BitVec.eq_of_toNat_eq hsel))
    show Duties (s.setch (flickerDuty s.input) (flickerSel s.input)) _ _ _ _
    rw [hall]
    exact ⟨rfl, rfl, rfl, rfl⟩
  · have h4 : (flickerSel s.input).toNat ≤ 4 := by
      rw [flickerSel_toNat]
      omega
    exact setch_single_duties (flickerDuty s.input) (Nat.pos_of_ne_zero hsel) h4 s

/-! ## The breathe animation -/

/-- Settles O39, from the two branches of the sequence as numbers (`breatheDuty_toNat`). -/
theorem breatheSequenceRisesAndFallsByOne : Obligations.BreatheSequenceRisesAndFallsByOne := by
  have hduty : ∀ i, i ≤ 254 → (breatheDuty i).toNat = sweepDuty i := fun i hi => breatheDuty_toNat hi
  refine ⟨fun i hi => ?_, fun i h1 h2 => ?_, fun i hi => ?_, fun i hi => ?_⟩
  · exact (hduty i (by omega)).trans (if_pos hi)
  · exact (hduty i h2).trans (if_neg (Nat.not_le.2 h1))
  · rw [hduty i hi, sweepDuty]
    split <;> omega
  · rw [hduty (i + 1) hi, hduty i (Nat.le_of_lt hi), sweepDuty, sweepDuty]
    split <;> split <;> omega

/-- Settles O37: the first step of a sweep has duty 0, so that the channel it is put on cannot be seen. -/
theorem breatheStartsASweep : Obligations.BreatheStartsASweep := by
  refine ⟨rfl, fun s => ?_⟩
  have hstart : exec .renderBreathe s = .next
      ((((s.setch 0 (animSel s.animCh)).setCursor s.animCh 0).loadDelay s.params.breatheTicks).goto .brtStep) := rfl
  rw [hstart, State.setch_zero]
  rfl

/-- The tick of `BRT_STEP` that is no delay tick (43_mode_fsm.md R90 b, c). -/
theorem exec_brtStep_of_dly_zero {s : State} (hd : s.dly = 0) :
    exec .brtStep s = .next (if s.animPos = 254 then endSweep s else nextSweepStep s) := by
  simp only [animPos_eq_last]
  exact congrArg _ (State.delayTick_zero hd _)

/-- Settles O38: the delay protocol around the end of the sweep and its next step. -/
theorem brtStepHasThreeCases : Obligations.BrtStepHasThreeCases := by
  refine ⟨fun _ => rfl, fun s hp => ⟨fun hd => ?_, fun hd hl => ?_, fun hd hl => ?_⟩⟩
  · exact congrArg _ (State.delayTick_pos hd _)
  · exact ⟨_, (exec_brtStep_of_dly_zero hd).trans (congrArg _ (if_pos hl)), BitVec.toNat_add s.animCh 1, rfl⟩
  · obtain ⟨hn, -, hshow⟩ := nextSweepStep_sweepShown hp hl
    rw [hn] at hshow
    exact ⟨_, (exec_brtStep_of_dly_zero hd).trans (congrArg _ (if_neg hl)), hn, hshow, rfl⟩

end Sys2Proof.Machine
end

section
/-! PROOFS. 44_main_loop.md: the transition graph of `PH`, what a tick runs, that it always completes, and the first two phases
of a boot. -/

namespace Sys2Proof.Machine

/-! ## The transition graph -/

/-- Settles O16: out of reset the operation of `PH` leads along the graph (`exec_phase_ph`), and the end of the tick leaves `PH`
as that operation set it. -/
theorem phaseTakesGraphTransitions : Obligations.PhaseTakesGraphTransitions := by
  intro s t hm h
  obtain ⟨hr, rfl⟩ | ⟨hr, u, hu, rfl⟩ := step_phase_cases hm h
  · exact ⟨fun hr' => absurd (hr'.symm.trans hr) (by decide), fun _ => rfl⟩
  · exact ⟨fun _ => (s.endTick_ph u).trans (exec_phase_ph hu), fun hr' => absurd (hr.symm.trans hr') (by decide)⟩

/-! ## What a tick runs -/

/-- The operation a tick runs is the one its fetched word decodes to. -/
theorem fetch_of_decode {s : State} {i : Instr} (h : decode s.params.variant s.fetchWord = .ok i) : s.fetch = i :=
  Except.ok.inj ((decode_fetchWord s).symm.trans h)

/-- Settles O7: the decoded operation is the one the tick runs, and the end of the tick is the synchronizer (R60) with the
bookkeeping of the inputs and the command. -/
theorem stepRunsDecodedInstruction : Obligations.StepRunsDecodedInstruction := by
  intro s t i hr hd he
  obtain rfl := fetch_of_decode hd
  exact step_run hr he

/-! ## Completion -/

/-- A tick completes: in reset it runs no operation, and out of reset the one it runs completes (44_main_loop.md R101). -/
theorem step_completes (s : State) : ∃ t, step s = .next t := by
  cases hr : s.input.rstN with
  | false => exact ⟨s.resetTick, step_reset hr⟩
  | true =>
    obtain ⟨u, hu⟩ := exec_completes s.fetch s
    exact ⟨s.endTick u, step_run hr hu⟩

/-- Settles O8. -/
theorem everyInstructionCompletes : Obligations.EveryInstructionCompletes :=
  ⟨exec_completes, step_completes⟩

/-! ## The first two phases of a boot -/

/-- Settles O17: the two branches of the handshake (44_main_loop.md R102), and the one tick of `BOOT_PWM` (R103). -/
theorem bootInitAndBootPwmResults : Obligations.BootInitAndBootPwmResults := by
  refine ⟨⟨fun v => decode_phase_code v .bootInit, fun v => decode_phase_code v .bootPwm⟩, fun s =>
    ⟨fun hd => ?_, fun hd => ?_, rfl⟩⟩
  · exact congrArg _ (if_pos hd)
  · exact congrArg _ (if_neg (hd ▸ Bool.false_ne_true))

end Sys2Proof.Machine
end

section
/-! PROOFS. 70_reset_and_hazards.md: the first ticks after reset. -/

namespace Sys2Proof.Machine

/-! ## The ticks of a boot -/

/-- `BOOT_INIT` waits for `init_done` and writes no duty register and no byte (44_main_loop.md R102), by induction on the ticks. -/
theorem bootInit_waits {s : State} {e : Nat} (hp : s.ph = .bootInit) (hm : s.muxIn = none) (hr : NoReset s e)
    (hi : ∀ j, j < e → (s.inputAt j).initDone = false) :
    ∃ u, After e s u ∧ u.ph = .bootInit ∧ SameDuties s u ∧ u.mem = s.mem := by
  induction e generalizing s with
  | zero => exact ⟨s, after_zero s, hp, ⟨rfl, rfl, rfl, rfl⟩, rfl⟩
  | succ e ih =>
    obtain ⟨-, hinit⟩ := bootInitAndBootPwmResults
    obtain ⟨-, hwait, -⟩ := hinit s
    have hs := step_phase hm hr.head ((exec_ph_instr hp).trans (hwait (s.inputAt_zero ▸ hi 0 e.succ_pos)))
    obtain ⟨u, hu, hkept⟩ := ih (s := s.endTick s) hp rfl (hr.endTick s) fun j hj => by
      rw [State.endTick_inputAt]
      exact hi (j + 1) (Nat.succ_lt_succ hj)
    exact ⟨u, after_succ hs hu, hkept⟩

/-- The tick at which `init_done` ends `BOOT_INIT` (44_main_loop.md R102). -/
theorem step_bootInit_done {s : State} (hp : s.ph = .bootInit) (hm : s.muxIn = none) (hr : s.input.rstN = true)
    (hi : s.input.initDone = true) : step s = .next (s.endTick (s.goto .bootPwm)) := by
  obtain ⟨-, hinit⟩ := bootInitAndBootPwmResults
  obtain ⟨hleave, -⟩ := hinit s
  exact step_phase hm hr ((exec_ph_instr hp).trans (hleave hi))

theorem step_bootPwm {s : State} (hp : s.ph = .bootPwm) (hm : s.muxIn = none) (hr : s.input.rstN = true) :
    step s = .next (s.endTick (s.goto .bootLoad)) :=
  step_phase hm hr (exec_ph_instr hp)

theorem step_bootLoad {s : State} (hp : s.ph = .bootLoad) (hm : s.muxIn = none) (hr : s.input.rstN = true) :
    step s = .next (s.endTick ((s.enterMode (clampMode s.params.variant s.nv)).goto .poll)) :=
  step_phase hm hr (exec_ph_instr hp)

theorem clampMode_toNat (v : Variant) (b : Byte) : (clampMode v b).toNat = if b.toNat < v.modeCount then b.toNat else 0 :=
  apply_ite BitVec.toNat _ b 0

theorem nv_of_mem_eq {s t : State} (hm : t.mem = s.mem) (hp : t.params = s.params) : t.nv = s.nv := by
  rw [State.nv, hp]
  exact sameStore_of_mem_eq hm _

/-- Settles O19: the wait for `init_done` (`bootInit_waits`), the tick that ends it, and one tick each for `BOOT_PWM` and
`BOOT_LOAD`; none of them writes a duty register or the store. -/
theorem bootReachesPollInThreeTicks : Obligations.BootReachesPollInThreeTicks := by
  intro s e hp hm hr hi hdone
  have hwaits : ∀ j, j ≤ e → ∃ u, After j s u ∧ u.ph = .bootInit ∧ SameDuties s u ∧ u.mem = s.mem := fun j hj =>
    bootInit_waits hp hm (fun i h => hr i (by omega)) fun i h => hi i (by omega)
  obtain ⟨u, hu, hup, hduties, hmem⟩ := hwaits e (Nat.le_refl e)
  obtain ⟨hin, -⟩ := after_inputAt_levelAt (fun i h => hr i (by omega)) hu 0
  have hleave := step_bootInit_done hup (after_muxIn hm hu) (hr.after (n := 3) hu).head (by rwa [← u.inputAt_zero, hin])
  have h1 := after_snoc hu hleave
  have h2 := after_snoc h1 (step_bootPwm rfl rfl (hr.after (n := 2) h1).head)
  have h3 := after_snoc h2 (step_bootLoad rfl rfl (hr.after (n := 1) h2).head)
  refine ⟨fun j hj => ?_, ⟨_, h1, rfl, hduties⟩, ⟨_, h2, rfl, hduties⟩, _, h3, rfl, hduties, sameStore_of_mem_eq hmem, ?_⟩
  · obtain ⟨v, hv, hvp, hvd, -⟩ := hwaits j hj
    exact ⟨v, hv, hvp, hvd⟩
  · rw [← nv_of_mem_eq hmem (after_params hu), ← after_params hu]
    exact clampMode_toNat _ _

end Sys2Proof.Machine
end

section
/-! PROOFS. What the model chose where the spec states nothing: the canonical form of the storage and its free bytes at reset
(log 4), and where a word of the operation table is placed (logs 8, 10, 11). -/

namespace Sys2Proof.Machine

/-! ## The canonical form of the storage -/

/-- An operation that writes the storage writes one byte through `Memory.write`, which keeps the form. -/
theorem exec_mem_wf {i : Instr} {s t : State} (hs : s.mem.wf) (h : exec i s = .next t) : t.mem.wf := by
  obtain hm | ⟨-, -, hm⟩ := exec_mem_cases h <;> rw [hm]
  · exact hs
  · exact Memory.write_wf hs _ _

/-- Settles O52: a tick in reset writes at most the byte of the store in flight, and out of reset the operation alone writes. -/
theorem storeStaysCanonical : Obligations.StoreStaysCanonical := by
  intro s t hs h
  obtain ⟨-, rfl⟩ | ⟨-, u, hu, rfl⟩ := step_cases h
  · exact State.memAfterReset_wf hs
  · exact exec_mem_wf (t := u) hs hu

/-! ## A placed word -/

/-- A byte of the table that is read as a mode byte is past the phase codes (log 10). -/
theorem tableWord_mode {nbits w : Nat} {m : Byte} (h : tableWord nbits w = some (.m m)) : 12 ≤ m.toNat := by
  unfold tableWord at h
  split at h
  · split at h
    · cases h
    · cases h
      rw [BitVec.toNat_ofNat]
      omega
  · split at h
    · cases h
    · split at h <;> cases h

/-- A word of the table selects one operation in both variants: its mode bytes are out of range in either. -/
theorem decode_tableWord {nbits w : Nat} {c : CodeWord} (h : tableWord nbits w = some c) (v v' : Variant) :
    decode v c = decode v' c := by
  cases c with
  | m b =>
    have hb := tableWord_mode h
    have hrecover : ∀ v, decodeRender v b = .recover := fun v =>
      (decodeRender_eq_recover v b).2 (by cases v <;> simp only [Variant.modeCount] <;> omega)
    simp only [decode, hrecover]
  | ph _ | s _ | t _ => rfl

/-- A table word that decodes: the word it is read as, and its operation in any variant. -/
theorem decodeTableWord_cases {nbits w : Nat} {i : Instr} (h : decodeTableWord nbits w = some i) (v : Variant) :
    ∃ c, tableWord nbits w = some c ∧ decode v c = .ok i := by
  unfold decodeTableWord at h
  split at h
  · rename_i c hc
    refine ⟨c, hc, (decode_tableWord hc v .panel).trans ?_⟩
    cases hd : decode .panel c <;> rw [hd] at h <;> cases h
    rfl
  · cases h

theorem State.withFetchWord_of_tableWord {nbits w : Nat} {c : CodeWord} (h : tableWord nbits w = some c) (s : State) :
    s.withFetchWord nbits w = (s.placeWord c).holdReset := by
  rw [State.withFetchWord, h]

/-- Placing a word writes no duty register and no byte of the storage (log 11). -/
theorem State.placeWord_holdReset_frame (c : CodeWord) (s : State) :
    SameDuties s (s.placeWord c).holdReset ∧ (s.placeWord c).holdReset.mem = s.mem := by
  cases c <;> exact ⟨⟨rfl, rfl, rfl, rfl⟩, rfl⟩

/-- A placed word is fetched as the operation it decodes to, a mode byte as the `RENDER` that selects it. -/
theorem State.placeWord_holdReset_fetch {c : CodeWord} {i : Instr} {s : State} (h : decode s.params.variant c = .ok i) :
    (s.placeWord c).holdReset.fetch = i ∨
      ((s.placeWord c).holdReset.fetch = .render ∧
        (decodeRender s.params.variant (s.placeWord c).holdReset.mode).instr (s.placeWord c).holdReset.mode = i) := by
  cases c with
  | ph b =>
    cases hp : Phase.ofCode b with
    | none => simp [decode, hp] at h
    | some p =>
      obtain rfl := Phase.code_of_ofCode hp
      cases (decode_phase_code _ p).symm.trans h
      have hph : (s.placeWord (.ph p.code)).holdReset.ph = p := congrArg (Option.getD · s.ph) hp
      exact .inl ((State.fetch_none rfl).trans (congrArg Phase.instr hph))
  | m b => exact .inr ⟨rfl, Except.ok.inj h⟩
  | s b | t b => exact .inl (Except.ok.inj h)

/-- Settles O6: the table's word decodes alike in both variants, so the operation it names is the one fetched where it is placed. -/
theorem placedTableWordRunsNext : Obligations.PlacedTableWordRunsNext := by
  intro s nbits w i h
  obtain ⟨c, hc, hd⟩ := decodeTableWord_cases h s.params.variant
  obtain ⟨hduties, hmem⟩ := s.placeWord_holdReset_frame c
  rw [State.withFetchWord_of_tableWord hc]
  exact ⟨rfl, State.placeWord_holdReset_fetch hd, hduties, sameStore_of_mem_eq hmem⟩

/-! ## The state after reset -/

/-- Where the storage lists nothing, `NV` is a free value (20_memory.md R31 a, log 4). -/
theorem State.nv_of_mem_nil {s : State} (h : s.mem = []) : s.nv = Config.unwrittenByte s.params.nvAddr := by
  rw [State.nv, State.readByte, h, Memory.read_nil, Option.getD_none]

/-- Settles O12: the registers are the fields of `State.reset`, in `BOOT_INIT` the one request is `init_req` (10_state.md R24),
and the storage is empty. -/
theorem machineAfterReset : Obligations.MachineAfterReset := by
  have hduties : Duties State.reset 0 0 0 0 := ⟨rfl, rfl, rfl, rfl⟩
  exact ⟨rfl, rfl, rfl, rfl, rfl, hduties, rfl, rfl, rfl, rfl, rfl, rfl, rfl, rfl, rfl, rfl, rfl, rfl,
    State.nv_of_mem_nil rfl⟩

end Sys2Proof.Machine
end
